-- ==== Sys2Proof/Word.lean ====
section
/-! DEFINITION. The word types of the block, one abbreviation for each width the spec names. -/

namespace Sys2Proof

/-- The unit of transfer, 8 bits, unsigned; bit 7 is the most significant (R5, R33). -/
abbrev Byte := BitVec 8

/-- A host command word, `cmd_op[2:0]` (R50). -/
abbrev CmdWord := BitVec 3

/-- The poll budget, 4 bits (R10). -/
abbrev Tries := BitVec 4

/-- The argument of a sleep in milliseconds, 16 bits (R3 `DELAY_W`). -/
abbrev Millis := BitVec 16

/-- A raw sample, 20 bits unsigned (R3 `RAW_W`, R19). -/
abbrev Raw := BitVec 20

/-- `RH_FIX`: 27 bits unsigned with 20 fraction bits (R19, R134). -/
abbrev RhFix := BitVec 27

/-- `T_FIX`: 29 bits two's complement with 20 fraction bits (R19, R135). -/
abbrev TFix := BitVec 29

end Sys2Proof
end

