-- ==== Sys2Proof/Config.lean ====
section
/-! DEFINITION. What the spec leaves to the platform (R4) and the free values (R11, U8). The parameters
the spec fixes (R3) stand in Machine/Constants.lean. -/

namespace Sys2Proof

/-- A byte string of 0 to 3 bytes, index 0 first: what one bus request can carry (`bus_wlen[1:0]`, R20). -/
inductive BusString where
  | b0
  | b1 (x0 : Byte)
  | b2 (x0 x1 : Byte)
  | b3 (x0 x1 x2 : Byte)
deriving DecidableEq, Repr, Inhabited

/-- A frame of format B3, `[op, p1, p2]` (R54). -/
structure FrameB3 where
  op : Byte
  p1 : Byte
  p2 : Byte
deriving DecidableEq, Repr, Inhabited

/-- The open parameters of R4. The model takes them as an argument: they stand in `State.cfg`, which no
step writes (R43). -/
structure Parameters where
  /-- `CMD_RESET`: the source gives neither bytes nor length. -/
  cmdReset : BusString
  /-- `CMD_CALIBRATE`: 3 bytes, not given. -/
  cmdCalibrate : FrameB3
  /-- `CMD_TRIGGER`: 3 bytes, not given. -/
  cmdTrigger : FrameB3
  /-- `PAYLOAD_WPREFIX`: 0 to 3 bytes, not given. -/
  payloadWprefix : BusString
  /-- `BUS_ERR_W`: the width of the opaque transport error `E`. -/
  busErrW : Nat
deriving DecidableEq, Repr, Inhabited

/-- The parameters of the platform that a run from `State.reset` has. A constant without a body: nothing
can be proved about it but what holds for every platform (log 2). -/
opaque Config.platform : Parameters

/-- Free values (R11: the scratch registers "hold an unspecified value whenever `SEQ = IDLE`"), one for each
number of the state's counter. Constants without a body (log 5). -/
opaque Config.freeCmdr : Nat → CmdWord

/-- The free value of TRIES in IDLE, within the bound of R15: "`0 <= TRIES <= 10` always" (log 5). -/
opaque Config.freeTries : Nat → Fin 11

/-- The free value of ST in IDLE (R11, log 5). -/
opaque Config.freeSt : Nat → Byte

/-- The free values of `PAY[0..6]` in IDLE (R11, log 5). -/
opaque Config.freePay : Nat → Fin 7 → Byte

end Sys2Proof
end

