-- ==== Sys2Proof/Machine/Constants.lean ====
section
/-! DEFINITION. The parameters the source fixes, table of R3. -/

namespace Sys2Proof.Machine

/-- `BUS_ADDR` (R3, R30). -/
def busAddr : Byte := 0x38

/-- `CMD_STATUS`: the one byte of the status request (R3, R54). -/
def cmdStatus : Byte := 0x71

/-- `STATUS_RLEN` (R3). -/
def statusRlen : BitVec 3 := 1

/-- `PAYLOAD_LEN` (R3). -/
def payloadLen : BitVec 3 := 7

/-- `RESET_DELAY_MS` (R3). -/
def resetDelayMs : Millis := 20

/-- `POLL_DELAY_MS` (R3). -/
def pollDelayMs : Millis := 10

/-- `CAL_TRIES` (R3). -/
def calTries : Tries := 10

/-- `READ_TRIES` (R3). -/
def readTries : Tries := 5

/-- `CRC_POLY` (R3). -/
def crcPoly : Byte := 0x31

/-- `CRC_INIT` (R3). -/
def crcInit : Byte := 0xFF

/-- `CRC_XOROUT` (R3). -/
def crcXorOut : Byte := 0x00

/-- The number of fraction bits of RH_FIX and T_FIX (R134, R135). -/
def fractionBits : Nat := 20

/-- `RH_SCALE` (R3). -/
def rhScale : Nat := 100

/-- `T_SCALE` (R3). -/
def tScale : Nat := 200

/-- `T_OFFSET` (R3). -/
def tOffset : Nat := 50

end Sys2Proof.Machine
end

