-- ==== Sys2Proof/Syntax.lean ====
section
/-! DEFINITION. The instructions: one constructor for each of the 20 rows of `spec/opcode_table.json` (R61). -/

namespace Sys2Proof

/-- The operand of STATUS_DECODE: "One byte `s` (either `ST` or `PAY[0]`)" (R83). -/
inductive StatusSource where
  | st
  | pay0
deriving DecidableEq, Repr

/-- The rows of the opcode table. No row but STATUS_DECODE has an operand field (R50, R54, R61). -/
inductive Instr where
  -- format H, host command words (R50, R51)
  | reserved0
  | init
  | reset
  | calibrate
  | read
  | drop
  | reserved6
  | reserved7
  -- bus frames, formats B1, B3 and BP (R54)
  | status
  | softReset
  | calTrigger
  | measTrigger
  | payloadRead
  -- internal operations, never selected by bits (R61)
  | statusq
  | statusDecode (src : StatusSource)
  | crc8
  | unpackH
  | unpackT
  | convRh
  | convT
deriving DecidableEq, Repr

end Sys2Proof
end

