-- ==== Sys2Proof/Machine/Bytes.lean ====
section
/-! DEFINITION. Byte strings: the order of their bytes (R37), their form on the bus request channel (R20), and
the bytes of the five bus frames (R54). -/

namespace Sys2Proof

/-- The bytes of a string in index order, the order in which they are sent (R37). -/
def BusString.bytes : BusString → List Byte
  | .b0 => []
  | .b1 x0 => [x0]
  | .b2 x0 x1 => [x0, x1]
  | .b3 x0 x1 x2 => [x0, x1, x2]

/-- `bus_wlen[1:0]` (R20). -/
def BusString.wlen : BusString → BitVec 2
  | .b0 => 0
  | .b1 _ => 1
  | .b2 _ _ => 2
  | .b3 _ _ _ => 3

/-- `bus_wdata[23:0]`: the byte at index 0 in bits 7:0, index 1 in bits 15:8, index 2 in bits 23:16 (R20). The
bits of the bytes a shorter string does not have are 0 (DESIGN CHOICE, unsafe, log 9). -/
def BusString.wdata : BusString → BitVec 24
  | .b0 => 0
  | .b1 x0 => (0#16) ++ x0
  | .b2 x0 x1 => (0#8) ++ x1 ++ x0
  | .b3 x0 x1 x2 => x2 ++ x1 ++ x0

/-- A B3 frame as a byte string, `op` first (R54). -/
def FrameB3.string (f : FrameB3) : BusString := .b3 f.op f.p1 f.p2

/-- The byte string of a row of format B1, B3 or BP under the parameters `p` (table of R54); none for a row of
another format. -/
def frameString (p : Parameters) : Instr → Option BusString
  | .status => some (.b1 Machine.cmdStatus)
  | .softReset => some p.cmdReset
  | .calTrigger => some p.cmdCalibrate.string
  | .measTrigger => some p.cmdTrigger.string
  | .payloadRead => some p.payloadWprefix
  | .reserved0 | .init | .reset | .calibrate | .read | .drop | .reserved6 | .reserved7 => none
  | .statusq | .statusDecode _ | .crc8 | .unpackH | .unpackT | .convRh | .convT => none

/-- The suggested values of the open parameters, "from general knowledge, not in source" (R4, G1 to G4); the
opcode table's `match` words are these. R4 suggests none for `BUS_ERR_W` ("none; left abstract"): the width 8 is the
model's own (DESIGN CHOICE, log 19). Nothing but `decodeTableWord` and the tests uses them (log 11). -/
def suggestedParameters : Parameters where
  cmdReset := .b1 0xBA
  cmdCalibrate := ⟨0xBE, 0x08, 0x00⟩
  cmdTrigger := ⟨0xAC, 0x33, 0x00⟩
  payloadWprefix := .b1 0x00
  busErrW := 8

end Sys2Proof
end

