-- ==== Sys2Proof/Machine/State.lean ====
section
/-! DEFINITION. The state of the block, its channels and its environment, as plain data, and the state after
reset. -/

namespace Sys2Proof.Machine

/-- The 13 values of SEQ, in the order of their numbers 0 to 12 (R12). -/
inductive SeqState where
  | idle
  | rWrite
  | rSleep
  | cWrite
  | cPoll
  | cSleep
  | cCheck
  | mWrite
  | mPoll
  | mSleep
  | mFetch
  | mDecode
  | respond
deriving DecidableEq, Repr

/-- An error of the transport's opaque type `E`, named by a number. The block copies it unchanged and never
inspects it (R4, D16; log 8). -/
structure BusErr where
  code : Nat
deriving DecidableEq, Repr

/-- The kinds of R7, R150 and R152. -/
inductive ErrKind where
  | bus (e : BusErr)
  | uncalibrated
  | checksum
  | maxTriesExceeded
  | noHandle
  | badCommand
deriving DecidableEq, Repr

/-- The data of `OkReading` (R7, R19). -/
structure Reading where
  hRaw : Raw
  tRaw : Raw
  rhFix : RhFix
  tFix : TFix
deriving DecidableEq, Repr

/-- A command's result (R7). -/
inductive Result where
  | ok
  | okReading (r : Reading)
  | err (k : ErrKind)
deriving DecidableEq, Repr

/-- `bus_kind`: 0 = write, 1 = write-then-read (R20). -/
inductive BusKind where
  | write
  | writeRead
deriving DecidableEq, Repr

/-- A message of the bus request channel (R20, R31). `wbytes` carries `bus_wlen` and `bus_wdata`. -/
structure BusRequest where
  kind : BusKind
  addr : Byte
  wbytes : BusString
  rlen : BitVec 3
deriving DecidableEq, Repr

/-- A request of the block: a bus transaction, or a delay `dly_ms[15:0]` (R20). -/
inductive Request where
  | bus (r : BusRequest)
  | delay (ms : Millis)
deriving DecidableEq, Repr

/-- A message of the bus response channel (R20): `bus_rdata[55:0]` has the byte at index `i` in bits `8i+7:8i`;
it is ignored when `ok` is false, and `err` when it is true. -/
structure BusResponse where
  ok : Bool
  err : BusErr
  rdata : BitVec 56
deriving DecidableEq, Repr

/-- A message of the host response channel (R20, R60). -/
structure Response where
  rspErr : BitVec 3
  busErr : BusErr
  hRaw : Raw
  tRaw : Raw
  rhFix : RhFix
  tFix : TFix
deriving DecidableEq, Repr

/-- What leaves the block on its channels: the events of R6. -/
inductive Event where
  | bus (r : BusRequest)
  | sleep (ms : Millis)
  | respond (r : Response)
deriving DecidableEq, Repr

/-- `PAY[0..6]`, index 0 received first (R10, R58). -/
structure Payload where
  b0 : Byte
  b1 : Byte
  b2 : Byte
  b3 : Byte
  b4 : Byte
  b5 : Byte
  b6 : Byte
deriving DecidableEq, Repr

/-- The seven fields of the status byte (R56, R83). -/
structure StatusFields where
  busy : Bool
  mode : BitVec 2
  crcEn : Bool
  calEn : Bool
  fifoEn : Bool
  fifoFull : Bool
  fifoEmpty : Bool
deriving DecidableEq, Repr

/-- What the functional units put out: the CRC validator's byte, the status decoder's fields, and H_RAW, T_RAW,
RH_FIX, T_FIX of R19 ("outputs, not registers"). They exist while a command runs and are back at 0 in IDLE
("the block keeps no copy after `Respond`"; log 13). -/
structure Datapath where
  crc : Byte
  status : StatusFields
  hRaw : Raw
  tRaw : Raw
  rhFix : RhFix
  tFix : TFix
deriving DecidableEq, Repr

/-- The units put nothing out. -/
def Datapath.quiet : Datapath where
  crc := 0
  status := ⟨false, 0, false, false, false, false, false⟩
  hRaw := 0
  tRaw := 0
  rhFix := 0
  tFix := 0

/-- The environment's side of the channels (R20): messages that wait to be consumed, oldest first (log 3). The
transport and the device are an oracle (R36): every list is a possible one. -/
structure Env where
  /-- Command words the host offers; the first stands on the port. -/
  cmds : List CmdWord
  /-- The transport's answers to bus requests. -/
  bus : List BusResponse
  /-- How many more sleeps the delay source answers (an answer carries no data). -/
  sleeps : Nat
  /-- How many more responses the host takes. -/
  takes : Nat
deriving DecidableEq, Repr

/-- Nothing offered, nothing answered, nothing taken. -/
def Env.silent : Env := ⟨[], [], 0, 0⟩

/-- The state: the registers of R10, the hidden state of R18, the units' outputs of R19, the parameters of R4,
the inputs of R20, and the model's own record of events and counter of free values. -/
structure State where
  /-- The open parameters (R4); no step writes them (R43). -/
  cfg : Parameters
  /-- SEQ. -/
  seq : SeqState
  /-- HANDLE. -/
  handle : Bool
  /-- CMDR. -/
  cmdr : CmdWord
  /-- TRIES. -/
  tries : Tries
  /-- ST. -/
  st : Byte
  /-- PAY[0..6]. -/
  pay : Payload
  /-- The request in flight, at most one (R18). -/
  outstanding : Option Request
  /-- The pending result of the running command (R18, R112). -/
  res : Option Result
  /-- The units' outputs (R19). -/
  dp : Datapath
  /-- The inputs that wait on the channels (R20, R36). -/
  env : Env
  /-- The events so far, oldest first (R40, R192). -/
  trace : List Event
  /-- The number of the next free value (R11, log 5). -/
  freeCount : Nat
deriving DecidableEq, Repr

/-- The stops of the machine. No instruction of the table stops in a state a run reaches (log 15). -/
inductive Fault where
  /-- Raised by R_SLEEP and by C_CHECK when CMDR is no command that passes through that state: R112 has no row
  for it, and no run reaches it. Safe: the model stops where the spec says nothing. -/
  | strayCommand
  /-- Raised by RESPOND when no result is pending: R112 has no row for it, and no run reaches it. Safe. -/
  | noResult
deriving DecidableEq, Repr

/-- Why an instruction is refused. -/
inductive Refusal where
  /-- Raised by an arm of `exec` whose instruction has no meaning yet. Safe: nothing runs. No arm raises it. -/
  | notModelled (mnemonic : String)
deriving DecidableEq, Repr

/-- The state after block reset with parameters `cfg` and inputs `env` (R23, R180): SEQ = IDLE, HANDLE = 0, no
request outstanding, no pending result. The scratch registers, "unspecified" there, are 0 (DESIGN CHOICE,
unsafe, log 4), and so are the units' outputs (log 13). -/
def State.boot (cfg : Parameters) (env : Env) : State where
  cfg := cfg
  seq := .idle
  handle := false
  cmdr := 0
  tries := 0
  st := 0
  pay := ⟨0, 0, 0, 0, 0, 0, 0⟩
  outstanding := none
  res := none
  dp := Datapath.quiet
  env := env
  trace := []
  freeCount := 0

/-- The machine right after block reset, on a platform nothing is known of and before the environment has done
anything (R180; log 2, 3, 12). -/
def State.reset : State := State.boot Config.platform Env.silent

end Sys2Proof.Machine
end

