-- ==== Sys2Proof/Machine/Operands.lean ====
section
/-! DEFINITION. The operands assembled from bits: the bytes of a bus response (R20), the payload (R58), the two
samples (R130, R131), their inverse packing (R132), and the conversions (R134, R135). -/

namespace Sys2Proof.Machine

/-- The byte at index `i` of a response, bits `8i+7:8i` of `bus_rdata` (R20). -/
def BusResponse.byteAt (a : BusResponse) (i : Nat) : Byte := a.rdata.extractLsb' (8 * i) 8

/-- The seven bytes of a payload read, index 0 received first (R37, R58). -/
def BusResponse.payload (a : BusResponse) : Payload :=
  ⟨a.byteAt 0, a.byteAt 1, a.byteAt 2, a.byteAt 3, a.byteAt 4, a.byteAt 5, a.byteAt 6⟩

/-- `PAY[0..5]`, the bytes the checksum covers, in index order (R108, R123). -/
def Payload.covered (p : Payload) : List Byte := [p.b0, p.b1, p.b2, p.b3, p.b4, p.b5]

/-- `PAY[0..6]` in index order. -/
def Payload.bytes (p : Payload) : List Byte := p.covered ++ [p.b6]

/-- UNPACK_H: `(byte1<<12)|(byte2<<4)|(byte3>>4)` (R130). -/
def unpackHum (p : Payload) : Raw :=
  ((p.b1.setWidth 20) <<< 12) ||| ((p.b2.setWidth 20) <<< 4) ||| ((p.b3 >>> 4).setWidth 20)

/-- UNPACK_T: `((byte3 & 0x0F)<<16)|(byte4<<8)|byte5` (R131). -/
def unpackTemp (p : Payload) : Raw :=
  (((p.b3 &&& 0x0F).setWidth 20) <<< 16) ||| ((p.b4.setWidth 20) <<< 8) ||| (p.b5.setWidth 20)

/-- PACK: the payload with status byte `s`, samples `h` and `t` and checksum byte `c` (R132). -/
def packPayload (s : Byte) (h t : Raw) (c : Byte) : Payload where
  b0 := s
  b1 := h.extractLsb' 12 8
  b2 := h.extractLsb' 4 8
  b3 := h.extractLsb' 0 4 ++ t.extractLsb' 16 4
  b4 := t.extractLsb' 8 8
  b5 := t.extractLsb' 0 8
  b6 := c

/-- CONV_RH: `100 * h`, computed exactly and narrowed to 27 bits (R134). -/
def convertRh (h : Raw) : RhFix := BitVec.ofNat 27 (rhScale * h.toNat)

/-- CONV_T: `200 * t - 50 * 2^20`, computed exactly and narrowed to 29 bits two's complement (R135). -/
def convertTemp (t : Raw) : TFix :=
  BitVec.ofInt 29 ((tScale * t.toNat : Nat) - (tOffset * 2 ^ fractionBits : Nat))

end Sys2Proof.Machine
end

