-- ==== Sys2Proof/Machine/Ops.lean ====
section
/-! DEFINITION. The named operations every meaning is written over: the requests the block can issue (R32), issuing
one and consuming its answer (R31, R40), failing and finishing a command (R156), answering the host and returning
to IDLE (R60, R158). -/

namespace Sys2Proof.Machine

/-- The three outcomes of a step of this machine. -/
abbrev Outcome := Host.Outcome State Fault Refusal

/-! ### The requests (R31, R32) -/

/-- The request of `BusWrite(bytes)` (R31). -/
def busWrite (b : BusString) : Request := .bus ⟨.write, busAddr, b, 0⟩

/-- The request of `BusWriteRead(bytes, n)` (R31). -/
def busWriteRead (b : BusString) (n : BitVec 3) : Request := .bus ⟨.writeRead, busAddr, b, n⟩

/-- T1: `BusWrite(CMD_RESET)` (R32). -/
def reqReset (p : Parameters) : Request := busWrite p.cmdReset

/-- T2: `BusWrite(CMD_CALIBRATE)` (R32). -/
def reqCalibrate (p : Parameters) : Request := busWrite p.cmdCalibrate.string

/-- T3: `BusWrite(CMD_TRIGGER)` (R32). -/
def reqTrigger (p : Parameters) : Request := busWrite p.cmdTrigger.string

/-- T4: `BusWriteRead([0x71], 1)` (R32, R80). -/
def reqStatus : Request := busWriteRead (.b1 cmdStatus) statusRlen

/-- T5: `BusWriteRead(PAYLOAD_WPREFIX, 7)` (R32). -/
def reqPayload (p : Parameters) : Request := busWriteRead p.payloadWprefix payloadLen

/-- The event a request is (R6). -/
def Request.event : Request → Event
  | .bus r => .bus r
  | .delay ms => .sleep ms

/-- The request a sequencer state issues (table of R12). -/
def SeqState.request (p : Parameters) : SeqState → Option Request
  | .rWrite => some (reqReset p)
  | .rSleep => some (.delay resetDelayMs)
  | .cWrite => some (reqCalibrate p)
  | .cPoll | .cCheck | .mPoll => some reqStatus
  | .cSleep | .mSleep => some (.delay pollDelayMs)
  | .mWrite => some (reqTrigger p)
  | .mFetch => some (reqPayload p)
  | .idle | .mDecode | .respond => none

/-! ### The single writes -/

/-- `SEQ <- q`. -/
def goto (q : SeqState) (s : State) : State := { s with seq := q }

/-- `CMDR <- cmd_op` (R77). -/
def latchCommand (w : CmdWord) (s : State) : State := { s with cmdr := w }

/-- `HANDLE <- b` (R13). -/
def setHandle (b : Bool) (s : State) : State := { s with handle := b }

/-- `TRIES <- n`, the load of a poll budget (R15). -/
def loadTries (n : Tries) (s : State) : State := { s with tries := n }

/-- `TRIES <- TRIES - 1`, "performed only when `TRIES > 0`": it never wraps (R15, R190; log 18). -/
def countDown (s : State) : State := { s with tries := if s.tries = 0 then 0 else s.tries - 1 }

/-- `ST <- s` (R80). -/
def latchStatus (b : Byte) (s : State) : State := { s with st := b }

/-- `PAY[0..6] <- r` (R105 step 3). -/
def latchPayload (p : Payload) (s : State) : State := { s with pay := p }

/-! ### Requests and answers -/

/-- The issue half of an event: the request goes out on its channel and the block waits (R18, R31). -/
def issue (r : Request) (s : State) : State :=
  { s with outstanding := some r, trace := s.trace ++ [r.event] }

/-- The answer half of a bus transaction: the answer is consumed, nothing is outstanding any more. -/
def takeBusAnswer (rest : List BusResponse) (s : State) : State :=
  { s with outstanding := none, env := { s.env with bus := rest } }

/-- The answer half of a sleep: it "carries no data" (R20). -/
def takeSleepAnswer (n : Nat) (s : State) : State :=
  { s with outstanding := none, env := { s.env with sleeps := n } }

/-- One bus transaction: issue it when nothing is in flight, wait while it is not answered, go on as `k` says
when it is (R18, R31, R40; log 1). -/
def transact (r : Request) (k : BusResponse → State → Outcome) (s : State) : Outcome :=
  match s.outstanding with
  | none => .next (issue r s)
  | some _ =>
    match s.env.bus with
    | [] => .next s
    | a :: rest => k a (takeBusAnswer rest s)

/-- One sleep, in the same way; it cannot fail (R6, R162). -/
def sleepFor (ms : Millis) (k : State → Outcome) (s : State) : Outcome :=
  match s.outstanding with
  | none => .next (issue (.delay ms) s)
  | some _ =>
    match s.env.sleeps with
    | 0 => .next s
    | n + 1 => k (takeSleepAnswer n s)

/-! ### The end of a command -/

/-- The pending result is written and the block goes to RESPOND (R18, R112). -/
def finish (r : Result) (s : State) : State := { s with res := some r, seq := .respond }

/-- `fail K`, the abort, in place of an exception: "the pending result becomes `Err(K)`" and no further event is
issued; the RESPOND step does the rest (R156). Nothing is saved and nothing is vectored. -/
def failWith (k : ErrKind) (s : State) : State := finish (.err k) s

/-- The trailing `?` of R6: on `err(e)` the command fails `Bus(e)` (R31), on `ok` it goes on. -/
def onAnswer (a : BusResponse) (k : State → Outcome) (s : State) : Outcome :=
  if a.ok then k s else .next (failWith (.bus a.err) s)

/-- The payload register with the free values of number `n` (R11, log 5). -/
def freePayload (n : Nat) : Payload :=
  ⟨Config.freePay n 0, Config.freePay n 1, Config.freePay n 2, Config.freePay n 3, Config.freePay n 4,
    Config.freePay n 5, Config.freePay n 6⟩

/-- The return to IDLE, in place of a return from exception (R158): the result no longer exists (R18), the units
put nothing out (R19), and the scratch registers "hold an unspecified value" (R11): free values (log 5). -/
def returnToIdle (s : State) : State :=
  { s with
    seq := .idle
    res := none
    dp := Datapath.quiet
    cmdr := Config.freeCmdr s.freeCount
    tries := BitVec.ofNat 4 (Config.freeTries s.freeCount).val
    st := Config.freeSt s.freeCount
    pay := freePayload s.freeCount
    freeCount := s.freeCount + 1 }

/-- `rsp_err[2:0]` (R60). -/
def Result.code : Result → BitVec 3
  | .ok | .okReading _ => 0
  | .err (.bus _) => 1
  | .err .uncalibrated => 2
  | .err .checksum => 3
  | .err .maxTriesExceeded => 4
  | .err .noHandle => 5
  | .err .badCommand => 6

/-- `rsp_buserr`: `e` after `Bus(e)`, zero otherwise (R60). -/
def Result.busErr : Result → BusErr
  | .err (.bus e) => e
  | .ok | .okReading _ | .err .uncalibrated | .err .checksum | .err .maxTriesExceeded | .err .noHandle
  | .err .badCommand => ⟨0⟩

/-- The reading fields: the reading after READ, all zero otherwise (R60, D21). -/
def Result.reading : Result → Reading
  | .okReading r => r
  | .ok | .err _ => ⟨0, 0, 0, 0⟩

/-- The message of the host response channel (R20, R60). -/
def Response.ofResult (r : Result) : Response where
  rspErr := r.code
  busErr := r.busErr
  hRaw := r.reading.hRaw
  tRaw := r.reading.tRaw
  rhFix := r.reading.rhFix
  tFix := r.reading.tFix

/-- The event `Respond(res)`: the host takes the message. -/
def deliver (r : Result) (n : Nat) (s : State) : State :=
  { s with trace := s.trace ++ [.respond (Response.ofResult r)], env := { s.env with takes := n } }

end Sys2Proof.Machine
end

