-- ==== Sys2Proof/Machine/Commands.lean ====
section
/-! DEFINITION. The host commands: acceptance and dispatch (R77, R112 rows of IDLE). A command is "taken only when
`SEQ = IDLE`"; in any other state it is not taken and nothing changes (R21). -/

namespace Sys2Proof.Machine

/-- A command is taken only in IDLE (R21); it latches its word in CMDR (R77). -/
def accept (w : CmdWord) (k : State → State) (s : State) : Outcome :=
  if s.seq = .idle then .next (k (latchCommand w s)) else .next s

/-- The gate on HANDLE, "tested once, at acceptance" (R77, R153). -/
def gate (q : SeqState) (s : State) : State := if s.handle then goto q s else failWith .noHandle s

/-- INIT: HANDLE <- 0, then the soft reset (R70, R77). -/
def execInit (s : State) : Outcome := accept 1 (fun s => goto .rWrite (setHandle false s)) s

/-- RESET, behind the gate (R77, R90). -/
def execReset (s : State) : Outcome := accept 2 (gate .rWrite) s

/-- CALIBRATE, behind the gate (R77, R95). -/
def execCalibrate (s : State) : Outcome := accept 3 (gate .cWrite) s

/-- READ, behind the gate (R77, R105). -/
def execRead (s : State) : Outcome := accept 4 (gate .mWrite) s

/-- DROP: HANDLE <- 0 and the answer Ok, with no event on the bus or delay channel (R75). -/
def execDrop (s : State) : Outcome := accept 5 (fun s => finish .ok (setHandle false s)) s

/-- The reserved word 0: answered BadCommand, no other effect (R51). -/
def execReserved0 (s : State) : Outcome := accept 0 (failWith .badCommand) s

/-- The reserved word 6 (R51). -/
def execReserved6 (s : State) : Outcome := accept 6 (failWith .badCommand) s

/-- The reserved word 7 (R51). -/
def execReserved7 (s : State) : Outcome := accept 7 (failWith .badCommand) s

end Sys2Proof.Machine
end

