-- ==== Sys2Proof/Machine/Flags.lean ====
section
/-! DEFINITION. The status decoder (R83): the only flag computation of the block (R16). -/

namespace Sys2Proof.Machine

/-- STATUS_DECODE, a pure function of one byte, at the positions of R56 (R83; the positions are the spec's own,
log 6). -/
def decodeStatus (s : Byte) : StatusFields where
  busy := s.getLsbD 7
  mode := s.extractLsb' 5 2
  crcEn := s.getLsbD 4
  calEn := s.getLsbD 3
  fifoEn := s.getLsbD 2
  fifoFull := s.getLsbD 1
  fifoEmpty := s.getLsbD 0

end Sys2Proof.Machine
end

