-- ==== Sys2Proof/Machine/Datapath.lean ====
section
/-! DEFINITION. The pure functional units: STATUS_DECODE (R83), CRC8 (R120), UNPACK_H, UNPACK_T (R130, R131),
CONV_RH, CONV_T (R134, R135). Each is a pure function; what it computes stands at its output (log 13). -/

namespace Sys2Proof.Machine

/-- The operand of the status decoder (R83). -/
def StatusSource.read (s : State) : StatusSource → Byte
  | .st => s.st
  | .pay0 => s.pay.b0

/-- The status decoder's output for one of its two operands (R83). -/
def runStatusDecode (src : StatusSource) (s : State) : State :=
  { s with dp := { s.dp with status := decodeStatus (StatusSource.read s src) } }

/-- The CRC validator's output for `PAY[0..5]` (R108, R120). -/
def runCrc8 (s : State) : State := { s with dp := { s.dp with crc := crc8 s.pay.covered } }

/-- `H_RAW <- UNPACK_H(PAY)` (R105 step 6). -/
def runUnpackH (s : State) : State := { s with dp := { s.dp with hRaw := unpackHum s.pay } }

/-- `T_RAW <- UNPACK_T(PAY)` (R105 step 6). -/
def runUnpackT (s : State) : State := { s with dp := { s.dp with tRaw := unpackTemp s.pay } }

/-- `RH_FIX <- CONV_RH(H_RAW)` (R105 step 7). -/
def runConvRh (s : State) : State := { s with dp := { s.dp with rhFix := convertRh s.dp.hRaw } }

/-- `T_FIX <- CONV_T(T_RAW)` (R105 step 7). -/
def runConvT (s : State) : State := { s with dp := { s.dp with tFix := convertTemp s.dp.tRaw } }

/-- STATUS_DECODE (R83). -/
def execStatusDecode (src : StatusSource) (s : State) : Outcome := .next (runStatusDecode src s)

/-- CRC8 (R120). -/
def execCrc8 (s : State) : Outcome := .next (runCrc8 s)

/-- UNPACK_H (R130). -/
def execUnpackH (s : State) : Outcome := .next (runUnpackH s)

/-- UNPACK_T (R131). -/
def execUnpackT (s : State) : Outcome := .next (runUnpackT s)

/-- CONV_RH (R134). -/
def execConvRh (s : State) : Outcome := .next (runConvRh s)

/-- CONV_T (R135). -/
def execConvT (s : State) : Outcome := .next (runConvT s)

/-- The reading at the units' outputs (R19). -/
def Datapath.reading (d : Datapath) : Reading := ⟨d.hRaw, d.tRaw, d.rhFix, d.tFix⟩

end Sys2Proof.Machine
end

