-- ==== Sys2Proof/Machine/Frames.lean ====
section
/-! DEFINITION. The bus frames (R54) as the transactions that carry them: T1, T2, T3, T5 of R32 with the rows of
R112 for their answers, and the write half of T4. A frame is written only in the sequencer state that issues it;
in any other state nothing changes (R32; log 14). -/

namespace Sys2Proof.Machine

/-- Runs `k` in the states `here`; elsewhere nothing changes (log 14). -/
def inState (here : Bool) (k : State → Outcome) (s : State) : Outcome := if here then k s else .next s

/-- SOFT_RESET, transaction T1 in R_WRITE: then R_SLEEP, or `Bus(e)` with no sleep (R90, R112). -/
def execSoftReset (s : State) : Outcome :=
  inState (s.seq = .rWrite) (transact (reqReset s.cfg) fun a => onAnswer a fun s => .next (goto .rSleep s)) s

/-- CAL_TRIGGER, transaction T2 in C_WRITE: then TRIES <- 10 and C_POLL (R95, R112). -/
def execCalTrigger (s : State) : Outcome :=
  inState (s.seq = .cWrite)
    (transact (reqCalibrate s.cfg) fun a => onAnswer a fun s => .next (goto .cPoll (loadTries calTries s))) s

/-- The entry of the measurement poll loop with a budget `n`: "a budget of zero at loop entry is itself a terminal
failure", before any status query (R105 step 2, R107; never true for the budget 5). -/
def enterMeasureLoop (n : Tries) (s : State) : State :=
  if n = 0 then failWith .maxTriesExceeded (loadTries n s) else goto .mPoll (loadTries n s)

/-- MEAS_TRIGGER, transaction T3 in M_WRITE: then TRIES <- 5 and M_POLL (R105, R112). -/
def execMeasTrigger (s : State) : Outcome :=
  inState (s.seq = .mWrite)
    (transact (reqTrigger s.cfg) fun a => onAnswer a fun s => .next (enterMeasureLoop readTries s)) s

/-- PAYLOAD_READ, transaction T5 in M_FETCH: then `PAY[0..6] <- r` and M_DECODE (R105 step 3, R112). -/
def execPayloadRead (s : State) : Outcome :=
  inState (s.seq = .mFetch)
    (transact (reqPayload s.cfg) fun a => onAnswer a fun s => .next (goto .mDecode (latchPayload a.payload s))) s

/-- The states that run STATUSQ (R32 row T4). -/
def SeqState.queriesStatus : SeqState → Bool
  | .cPoll | .cCheck | .mPoll => true
  | .idle | .rWrite | .rSleep | .cWrite | .cSleep | .mWrite | .mSleep | .mFetch | .mDecode | .respond => false

/-- STATUS, the frame `[0x71]`: the write half of T4. It goes out when STATUSQ has nothing in flight (R54, R80). -/
def execStatus (s : State) : Outcome :=
  inState (s.seq.queriesStatus && s.outstanding.isNone) (fun s => .next (issue reqStatus s)) s

end Sys2Proof.Machine
end

