-- ==== Sys2Proof/Machine/Status.lean ====
section
/-! DEFINITION. STATUSQ (R80) and the tests its callers make of the byte it returns (R95, R97, R106, R112). -/

namespace Sys2Proof.Machine

/-- The busy test of the calibration loop (R95, R112 rows of C_POLL): TRIES is tested before the sleep that
decrements it (R15). -/
def calPollTest (s : State) : State :=
  if s.dp.status.busy then
    if s.tries = 0 then failWith .uncalibrated s else goto .cSleep s
  else goto .cCheck s

/-- The busy test of the measurement loop (R105 step 2, R106, R112 rows of M_POLL). -/
def measPollTest (s : State) : State :=
  if s.dp.status.busy then
    if s.tries = 0 then failWith .maxTriesExceeded s else goto .mSleep s
  else goto .mFetch s

/-- The flag test after the calibration loop; BUSY is not tested (R98, R112 rows of C_CHECK). CMDR tells INIT, which
sets HANDLE, from CALIBRATE (R71); R112 has no row for another command (log 15). -/
def calCheckTest (s : State) : Outcome :=
  if s.dp.status.calEn then
    if s.cmdr = 1 then .next (finish .ok (setHandle true s))
    else if s.cmdr = 3 then .next (finish .ok s)
    else .fault .strayCommand
  else .next (failWith .uncalibrated s)

/-- What the calling state does with the byte STATUSQ returned. -/
def callerTest (s : State) : Outcome :=
  match s.seq with
  | .cPoll => .next (calPollTest s)
  | .cCheck => calCheckTest s
  | .mPoll => .next (measPollTest s)
  | .idle | .rWrite | .rSleep | .cWrite | .cSleep | .mWrite | .mSleep | .mFetch | .mDecode | .respond => .next s

/-- `ok([s])`: ST <- s, and the caller tests it through STATUS_DECODE (R10, R80). -/
def statusAnswered (a : BusResponse) (s : State) : Outcome :=
  onAnswer a (fun s => callerTest (runStatusDecode .st (latchStatus (a.byteAt 0) s))) s

/-- STATUSQ: one status round trip, transaction T4, in the states that query the status (R80, R112). -/
def execStatusq (s : State) : Outcome := inState s.seq.queriesStatus (transact reqStatus statusAnswered) s

end Sys2Proof.Machine
end

