-- ==== Sys2Proof/Machine/Dispatch.lean ====
section
/-! DEFINITION. The dispatch: one arm per row of the opcode table, each a direct call of the row's meaning. -/

namespace Sys2Proof.Machine

def exec (i : Instr) (s : State) : Host.Outcome State Fault Refusal :=
  match i with
  | .reserved0 => Sys2Proof.Machine.execReserved0 s
  | .init => Sys2Proof.Machine.execInit s
  | .reset => Sys2Proof.Machine.execReset s
  | .calibrate => Sys2Proof.Machine.execCalibrate s
  | .read => Sys2Proof.Machine.execRead s
  | .drop => Sys2Proof.Machine.execDrop s
  | .reserved6 => Sys2Proof.Machine.execReserved6 s
  | .reserved7 => Sys2Proof.Machine.execReserved7 s
  | .status => Sys2Proof.Machine.execStatus s
  | .softReset => Sys2Proof.Machine.execSoftReset s
  | .calTrigger => Sys2Proof.Machine.execCalTrigger s
  | .measTrigger => Sys2Proof.Machine.execMeasTrigger s
  | .payloadRead => Sys2Proof.Machine.execPayloadRead s
  | .statusq => Sys2Proof.Machine.execStatusq s
  | .statusDecode src => Sys2Proof.Machine.execStatusDecode src s
  | .crc8 => Sys2Proof.Machine.execCrc8 s
  | .unpackH => Sys2Proof.Machine.execUnpackH s
  | .unpackT => Sys2Proof.Machine.execUnpackT s
  | .convRh => Sys2Proof.Machine.execConvRh s
  | .convT => Sys2Proof.Machine.execConvT s

end Sys2Proof.Machine
end

