-- ==== Sys2Proof/WellFormed.lean ====
section
/-! DEFINITION. Which instructions are well formed under given parameters: what must hold of a bus frame so that
its bytes stand for it and for no other row. -/

namespace Sys2Proof

/-- The five rows that are bus frames (R54). -/
def frameInstrs : List Instr := [.status, .softReset, .calTrigger, .measTrigger, .payloadRead]

/-- Check 1: the reset command has a first byte, since "the first byte of a written byte string selects what
the device does" and `CMD_RESET[0]` is one of the four values the block uses (R30(b)). -/
def Instr.hasFirstByte (p : Parameters) (i : Instr) : Bool :=
  decide (i = .softReset → p.cmdReset ≠ .b0)

/-- Check 2: no other frame has the same bytes. The block never decodes a frame (R61); a reader of the bus can
only when this holds. -/
def Instr.frameUnambiguous (p : Parameters) (i : Instr) : Bool :=
  match frameString p i with
  | none => true
  | some b => frameInstrs.all fun j => decide (j = i ∨ frameString p j ≠ some b)

/-- A well-formed instruction. Host command words and internal operations always are (R51: "total"). -/
def Instr.wellFormed (p : Parameters) (i : Instr) : Bool :=
  i.hasFirstByte p && i.frameUnambiguous p

end Sys2Proof
end

