-- ==== Sys2Proof/Decode.lean ====
section
/-! DEFINITION. Decoding of host command words (R50, R51) and of bus frames (R54), the encoder, the words of the
opcode table, and the assembler's mnemonics (R52). -/

namespace Sys2Proof

/-- What an instruction is selected by: a host command word (format H) or the bytes of a bus frame (formats B1,
B3, BP). Internal operations have no code (R61). -/
inductive Code where
  | command (w : CmdWord)
  | frame (b : List Byte)
deriving DecidableEq, Repr

/-- Why a code is rejected. -/
inductive Reject where
  /-- The bytes are none of the five frames the block can write (R32: "No other shape ever appears"). -/
  | unknownFrame
deriving DecidableEq, Repr

/-- The host-side decoder: "total on the eight values of `cmd_op`" (R50, R51). -/
def decodeCommand (w : CmdWord) : Instr :=
  match w.toNat with
  | 0 => .reserved0
  | 1 => .init
  | 2 => .reset
  | 3 => .calibrate
  | 4 => .read
  | 5 => .drop
  | 6 => .reserved6
  | _ => .reserved7

/-- A reader of the bus: which frame these bytes are under the parameters `p` (R54). The block itself only emits
frames (R61). -/
def decodeFrame (p : Parameters) (b : List Byte) : Except Reject Instr :=
  if b = [Machine.cmdStatus] then .ok .status
  else if b = p.cmdReset.bytes then .ok .softReset
  else if b = p.cmdCalibrate.string.bytes then .ok .calTrigger
  else if b = p.cmdTrigger.string.bytes then .ok .measTrigger
  else if b = p.payloadWprefix.bytes then .ok .payloadRead
  else .error .unknownFrame

/-- The decoder, total on every code. -/
def decode (p : Parameters) : Code → Except Reject Instr
  | .command w => .ok (decodeCommand w)
  | .frame b => decodeFrame p b

/-- The command word of a row of format H (table of R50). -/
def commandWord : Instr → Option CmdWord
  | .reserved0 => some 0
  | .init => some 1
  | .reset => some 2
  | .calibrate => some 3
  | .read => some 4
  | .drop => some 5
  | .reserved6 => some 6
  | .reserved7 => some 7
  | .status | .softReset | .calTrigger | .measTrigger | .payloadRead => none
  | .statusq | .statusDecode _ | .crc8 | .unpackH | .unpackT | .convRh | .convT => none

/-- The encoder: the word of a host command, the bytes of a frame, nothing for an internal operation, which is
"never selected by bits" (R61). -/
def encode (p : Parameters) (i : Instr) : Option Code :=
  match commandWord i with
  | some w => some (.command w)
  | none => (frameString p i).map fun b => .frame b.bytes

/-- The bytes of a table word of `n` bytes, "byte 0 in the most significant position" (R61). -/
def tableBytes (n w : Nat) : List Byte :=
  (List.range n).map fun k => BitVec.ofNat 8 (w >>> (8 * (n - 1 - k)))

/-- The code of a word of the opcode table: a word below 8 of at most one byte is a host command word (3 bits,
R50), every other word the bytes of a frame. The row PAYLOAD_READ, whose suggested word is the one byte 0x00,
is the word of RESERVED0 here, and a row without bits has no word (log 11). -/
def tableCode (nbits w : Nat) : Code :=
  if 0 < nbits ∧ nbits ≤ 8 ∧ w < 8 then .command (BitVec.ofNat 3 w) else .frame (tableBytes (nbits / 8) w)

/-- The instruction the decoder reads from a word of the opcode table, whose `match` words are the suggested
parameters (R61, log 11). -/
def decodeTableWord (nbits w : Nat) : Option Instr :=
  match decode suggestedParameters (tableCode nbits w) with
  | .ok i => some i
  | .error _ => none

/-- The assembler: a line of a program is one mnemonic, upper case, no operands (R52). A reserved word has no
mnemonic in a program. -/
def assembleLine (line : String) : Option CmdWord :=
  match line with
  | "INIT" => commandWord .init
  | "RESET" => commandWord .reset
  | "CALIBRATE" => commandWord .calibrate
  | "READ" => commandWord .read
  | "DROP" => commandWord .drop
  | _ => none

/-- "A program for this block is a sequence of host commands, one mnemonic per line" (R52): the list of command
words the host offers, or nothing when a line is no mnemonic. -/
def assemble : List String → Option (List CmdWord)
  | [] => some []
  | l :: ls =>
    match assembleLine l, assemble ls with
    | some w, some ws => some (w :: ws)
    | _, _ => none

end Sys2Proof
end

