-- ==== Sys2Proof/Machine/Sequencer.lean ====
section
/-! DEFINITION. The sequencer: which instruction a state runs, and the states whose step is no row of the opcode
table: the sleeps, M_DECODE, RESPOND, and IDLE with nothing offered (R12, R112). -/

namespace Sys2Proof.Machine

/-- The instruction the next step runs: in IDLE the command on the host's port (R77), in a state with a bus event
the transaction of that state (R12, R32), in the other states none. -/
def State.selected (s : State) : Option Instr :=
  match s.seq with
  | .idle => s.env.cmds.head?.map decodeCommand
  | .rWrite => some .softReset
  | .cWrite => some .calTrigger
  | .cPoll | .cCheck | .mPoll => some .statusq
  | .mWrite => some .measTrigger
  | .mFetch => some .payloadRead
  | .rSleep | .cSleep | .mSleep | .mDecode | .respond => none

/-- The state `exec` runs in: in IDLE the command word is taken off the host's port; elsewhere a command offered
"is not taken" (R21). -/
def State.afterFetch (s : State) : State :=
  match s.seq with
  | .idle => { s with env := { s.env with cmds := s.env.cmds.tail } }
  | .rWrite | .rSleep | .cWrite | .cPoll | .cSleep | .cCheck | .mWrite | .mPoll | .mSleep | .mFetch | .mDecode
  | .respond => s

/-- After the 20 ms: CMDR tells RESET, which ends `Ok`, from INIT, which goes on to the calibration (R71, R90, R112);
R112 has no row for another command (log 15). -/
def resetSlept (s : State) : Outcome :=
  if s.cmdr = 1 then .next (goto .cWrite s)
  else if s.cmdr = 2 then .next (finish .ok s)
  else .fault .strayCommand

/-- After a poll's 10 ms: TRIES <- TRIES - 1, then the next query (R95, R105, R112). -/
def pollSlept (q : SeqState) (s : State) : Outcome := .next (goto q (countDown s))

/-- M_DECODE: CRC8 and its comparison, the calibration flag of `PAY[0]`, the unpacking, the conversions, in that
order; a failing step ends it (R105 steps 4 to 7, R108, R109, R110). -/
def decodeStage (s : State) : State :=
  let s1 := runCrc8 s
  if s1.dp.crc ≠ s1.pay.b6 then failWith .checksum s1
  else
    let s2 := runStatusDecode .pay0 s1
    if s2.dp.status.calEn then
      let s3 := runConvT (runConvRh (runUnpackT (runUnpackH s2)))
      finish (.okReading s3.dp.reading) s3
    else failWith .uncalibrated s2

/-- RESPOND: the message is offered until the host takes it, then the block is in IDLE (R112, R184). -/
def respondStep (s : State) : Outcome :=
  match s.res with
  | none => .fault .noResult
  | some r =>
    match s.env.takes with
    | 0 => .next s
    | n + 1 => .next (returnToIdle (deliver r n s))

/-- The step of a state that runs no instruction of the table. In IDLE with nothing offered the block waits. -/
def sequencerStep (s : State) : Outcome :=
  match s.seq with
  | .rSleep => sleepFor resetDelayMs resetSlept s
  | .cSleep => sleepFor pollDelayMs (pollSlept .cPoll) s
  | .mSleep => sleepFor pollDelayMs (pollSlept .mPoll) s
  | .mDecode => .next (decodeStage s)
  | .respond => respondStep s
  | .idle | .rWrite | .cWrite | .cPoll | .cCheck | .mWrite | .mPoll | .mFetch => .next s

/-- The parameters under which a frame has the bytes of a table word; a word of another length changes nothing. -/
def Parameters.withFrame (p : Parameters) (i : Instr) (b : List Byte) : Parameters :=
  match i, b with
  | .softReset, [x0] => { p with cmdReset := .b1 x0 }
  | .calTrigger, [x0, x1, x2] => { p with cmdCalibrate := ⟨x0, x1, x2⟩ }
  | .measTrigger, [x0, x1, x2] => { p with cmdTrigger := ⟨x0, x1, x2⟩ }
  | .payloadRead, [x0] => { p with payloadWprefix := .b1 x0 }
  | _, _ => p

/-- The sequencer state that writes a frame (R32). -/
def frameSeq : Instr → Option SeqState
  | .status => some .cPoll
  | .softReset => some .rWrite
  | .calTrigger => some .cWrite
  | .measTrigger => some .mWrite
  | .payloadRead => some .mFetch
  | .reserved0 | .init | .reset | .calibrate | .read | .drop | .reserved6 | .reserved7 => none
  | .statusq | .statusDecode _ | .crc8 | .unpackH | .unpackT | .convRh | .convT => none

end Sys2Proof.Machine
end

