-- ==== Sys2Proof/Machine/Step.lean ====
section
/-! DEFINITION. One step of the block (R8, R112), and how an instruction comes to be the next one run. -/

namespace Sys2Proof.Machine

/-- One step: the instruction the sequencer selects, or the sequencer's own step (R112; log 1). -/
def step (s : State) : Host.Outcome State Fault Refusal :=
  match s.selected with
  | some i => exec i s.afterFetch
  | none => sequencerStep s

/-- `s` with the instruction of a table word next to run (log 12). A host command word is offered on the host's
port to a block in IDLE. A frame is what the block writes in the state that issues it, so the block is put in that
state with nothing in flight, and the open parameter gets the frame's bytes. -/
def State.withFetchWord (s : State) (nbits w : Nat) : State :=
  match tableCode nbits w with
  | .command c => { s with seq := .idle, env := { s.env with cmds := c :: s.env.cmds } }
  | .frame b =>
    match decodeTableWord nbits w with
    | none => s
    | some i =>
      match frameSeq i with
      | none => s
      | some q => { s with cfg := Parameters.withFrame s.cfg i b, seq := q, outstanding := none }

end Sys2Proof.Machine
end

