-- ==== Sys2Proof/Safety.lean ====
section
/-! DEFINITION. The terms claims are stated in: runs, the control invariant, the table of results (R154), the registers
that are live in a state (R11), what an observer sees (R192), and the bounds on the events and steps left (R189). -/

namespace Sys2Proof.Machine

/-! ### Runs -/

/-- `t` is the state one step after `s`. -/
def StepsTo (s t : State) : Prop := step s = .next t

/-- `t` is a state of the run from `s`. -/
def Reaches : State → State → Prop := Relation.ReflTransGen StepsTo

/-- The state after `n` steps, or the stop. -/
def stepN : Nat → State → Outcome
  | 0, s => .next s
  | n + 1, s =>
    match step s with
    | .next t => stepN n t
    | .fault f => .fault f
    | .refused r => .refused r

/-- A bus transaction or a sleep, the events that budgets count (R72, R91, R99, R111). -/
def Event.counts : Event → Bool
  | .bus _ | .sleep _ => true
  | .respond _ => false

/-- How many bus and delay events the block has caused so far. -/
def State.eventCount (s : State) : Nat := s.trace.countP Event.counts

/-- The milliseconds an event requests. -/
def Event.millis : Event → Nat
  | .sleep ms => ms.toNat
  | .bus _ | .respond _ => 0

/-- The sum of the sleeps of a list of events (R191). -/
def millisOf (es : List Event) : Nat := (es.map Event.millis).sum

/-! ### The control invariant -/

/-- The commands that pass through a sequencer state (column "used by" of R12). -/
def SeqState.usedBy : SeqState → List CmdWord
  | .rWrite | .rSleep => [1, 2]
  | .cWrite | .cPoll | .cSleep | .cCheck => [1, 3]
  | .mWrite | .mPoll | .mSleep | .mFetch | .mDecode => [4]
  | .idle | .respond => [0, 1, 2, 3, 4, 5, 6, 7]

/-- The results a command can end in (table of R154; a reserved word is 0, 6 or 7). -/
def resultAllowed (w : CmdWord) : Result → Bool
  | .ok => w == 1 || w == 2 || w == 3 || w == 5
  | .okReading _ => w == 4
  | .err (.bus _) => w == 1 || w == 2 || w == 3 || w == 4
  | .err .uncalibrated => w == 1 || w == 3 || w == 4
  | .err .checksum => w == 4
  | .err .maxTriesExceeded => w == 4
  | .err .noHandle => w == 2 || w == 3 || w == 4
  | .err .badCommand => w == 0 || w == 6 || w == 7

/-- The poll budget is within the range its state needs: at most 10 always (R15), at most 5 while READ polls, and
above 0 in the states that have tested it before their sleep (R15, R106). -/
def triesInRange (s : State) : Prop :=
  match s.seq with
  | .cSleep => 0 < s.tries.toNat ∧ s.tries.toNat ≤ 10
  | .mSleep => 0 < s.tries.toNat ∧ s.tries.toNat ≤ 5
  | .mPoll | .mFetch | .mDecode => s.tries.toNat ≤ 5
  | .idle | .rWrite | .rSleep | .cWrite | .cPoll | .cCheck | .mWrite | .respond => s.tries.toNat ≤ 10

/-- HANDLE while a command runs: INIT has dropped it, RESET, CALIBRATE and READ passed the gate with it (R13, R77). -/
def handleFitsCommand (s : State) : Prop :=
  s.seq ≠ .idle → s.seq ≠ .respond → (s.handle = true ↔ s.cmdr ≠ 1)

/-- The last status byte decided the state: a poll's sleep follows a busy byte, the check and the payload read follow
one that is not busy (R95, R105, R186). -/
def statusFitsState (s : State) : Prop :=
  match s.seq with
  | .cSleep | .mSleep => s.st.getLsbD 7 = true
  | .mFetch | .mDecode => s.st.getLsbD 7 = false
  | .idle | .rWrite | .rSleep | .cWrite | .cPoll | .cCheck | .mWrite | .mPoll | .respond => True

/-- An error the transport reports fits in its `BUS_ERR_W` bits (R4, R20). -/
def BusErr.fits (w : Nat) (e : BusErr) : Prop := e.code < 2 ^ w

/-- The error of a result fits in `BUS_ERR_W` bits. -/
def Result.errFits (w : Nat) (r : Result) : Prop := r.busErr.fits w

/-- The control invariant: what holds in every state of a run (R10 to R18, R112, R154). -/
structure ControlInv (s : State) : Prop where
  /-- A request in flight is the one its state issues (R12, R18). -/
  inFlight : ∀ r, s.outstanding = some r → s.seq.request s.cfg = some r
  /-- A result is pending exactly in RESPOND (R18, R112). -/
  pending : s.res.isSome = true ↔ s.seq = .respond
  /-- The running command is one that passes through the state (R12). -/
  command : s.cmdr ∈ s.seq.usedBy
  /-- The pending result is one the command can end in (R154). -/
  result : ∀ r, s.res = some r → resultAllowed s.cmdr r = true
  /-- The pending error fits in the error's width (R20). -/
  resultWidth : ∀ r, s.res = some r → r.errFits s.cfg.busErrW
  /-- The errors still to be answered fit in the width: a transport of this platform (R20). -/
  inputWidth : ∀ a ∈ s.env.bus, a.err.fits s.cfg.busErrW
  tries : triesInRange s
  handle : handleFitsCommand s
  status : statusFitsState s

/-! ### What an observer sees -/

/-- What runs are compared by: the events in order, HANDLE, the sequencer state with what is in flight and pending,
and the inputs not yet consumed (R192). The scratch registers and the units' outputs are left out. -/
structure Observation where
  cfg : Parameters
  seq : SeqState
  handle : Bool
  outstanding : Option Request
  res : Option Result
  env : Env
  trace : List Event
deriving DecidableEq, Repr

/-- The observation of a state. -/
def State.observe (s : State) : Observation :=
  ⟨s.cfg, s.seq, s.handle, s.outstanding, s.res, s.env, s.trace⟩

/-- The observation of an outcome: the next state's, or the stop. -/
def observeOutcome : Outcome → Observation ⊕ (Fault ⊕ Refusal)
  | .next s => .inl s.observe
  | .fault f => .inr (.inl f)
  | .refused r => .inr (.inr r)

/-! ### What is left of a command (R189) -/

/-- The number of bus and delay events the running command can still cause: the pseudocode of R70, R90, R95 and R105
read as a bound. A request in flight has already been counted. -/
def eventsLeft (s : State) : Nat :=
  let own : Nat := if s.outstanding.isSome then 0 else 1
  let t := s.tries.toNat
  match s.seq with
  | .idle | .mDecode | .respond => 0
  | .rWrite => own + 1 + (if s.cmdr = 1 then 23 else 0)
  | .rSleep => own + (if s.cmdr = 1 then 23 else 0)
  | .cWrite => own + 22
  | .cPoll => own + 2 * t + 1
  | .cSleep => own + 2 * (t - 1) + 2
  | .cCheck => own
  | .mWrite => own + 12
  | .mPoll => own + 2 * t + 1
  | .mSleep => own + 2 * (t - 1) + 2
  | .mFetch => own

/-- The number of steps the running command can still take, when every request is answered and the response taken. -/
def workLeft (s : State) : Nat :=
  let own : Nat := if s.outstanding.isSome then 0 else 1
  let t := s.tries.toNat
  match s.seq with
  | .idle => 0
  | .respond => 1
  | .mDecode => 2
  | .mFetch => own + 3
  | .mPoll => own + 4 * t + 5
  | .mSleep => own + 4 * (t - 1) + 7
  | .mWrite => own + 27
  | .cCheck => own + 2
  | .cPoll => own + 4 * t + 4
  | .cSleep => own + 4 * (t - 1) + 6
  | .cWrite => own + 46
  | .rSleep => own + (if s.cmdr = 1 then 48 else 2)
  | .rWrite => own + 1 + (if s.cmdr = 1 then 49 else 3)

/-- The environment has what the block waits for: the answer of the request in flight, or the host's readiness to take
the response (the proviso of R189). -/
def answered (s : State) : Prop :=
  match s.seq with
  | .rWrite | .cWrite | .cPoll | .cCheck | .mWrite | .mPoll | .mFetch => s.outstanding.isSome = true → s.env.bus ≠ []
  | .rSleep | .cSleep | .mSleep => s.outstanding.isSome = true → 0 < s.env.sleeps
  | .respond => 0 < s.env.takes
  | .idle => s.env.cmds ≠ []
  | .mDecode => True

/-- The bound on the events of a command (R189). -/
def eventBound (w : CmdWord) : Nat :=
  if w = 1 then 25 else if w = 2 then 2 else if w = 3 then 23 else if w = 4 then 13 else 0

/-! ### Answers and payloads -/

/-- An answer that reports the device busy. -/
def isBusyAnswer (a : BusResponse) : Prop := a.ok = true ∧ (a.byteAt 0).getLsbD 7 = true

/-- An answer that reports the device not busy. -/
def isIdleAnswer (a : BusResponse) : Prop := a.ok = true ∧ (a.byteAt 0).getLsbD 7 = false

/-- The bytes of a 56-bit number, the first in its most significant position (R58). -/
def payloadOfBits (v : BitVec 56) : Payload :=
  ⟨v.extractLsb' 48 8, v.extractLsb' 40 8, v.extractLsb' 32 8, v.extractLsb' 24 8, v.extractLsb' 16 8,
    v.extractLsb' 8 8, v.extractLsb' 0 8⟩

end Sys2Proof.Machine
end

