-- ==== Sys2Proof/Safety/Reference.lean ====
section
/-! DEFINITION. The spec's pseudocode of RESET (R90), CALIBRATE (R95), READ (R105) and INIT (R70), written as functions
of the oracle's script: the answers of the transport, in order. They know nothing of SEQ, of requests in flight or of
steps; that the sequencer (R112) carries them out is a claim. -/

namespace Sys2Proof.Reference

open Sys2Proof.Machine

/-- How a sequence of events ends: it goes on, it fails with a kind, or an answer is missing and it waits. -/
inductive Ending (α : Type) where
  | done (a : α)
  | failed (k : ErrKind)
  | waits
deriving DecidableEq, Repr

/-- A part of a command: its events in order, how it ends, and the answers it leaves. -/
structure Part (α : Type) where
  events : List Event
  ending : Ending α
  rest : List BusResponse
deriving DecidableEq, Repr

/-- One part, then another that depends on what the first gave; a failure or a missing answer ends the whole. -/
def Part.andThen {α β : Type} (p : Part α) (k : α → List BusResponse → Part β) : Part β :=
  match p.ending with
  | .done a => ⟨p.events ++ (k a p.rest).events, (k a p.rest).ending, (k a p.rest).rest⟩
  | .failed e => ⟨p.events, .failed e, p.rest⟩
  | .waits => ⟨p.events, .waits, p.rest⟩

/-- `fail k`. -/
def failed {α : Type} (k : ErrKind) (rest : List BusResponse) : Part α := ⟨[], .failed k, rest⟩

/-- Nothing more happens. -/
def done {α : Type} (a : α) (rest : List BusResponse) : Part α := ⟨[], .done a, rest⟩

/-- A bus transaction with a trailing `?` (R6): its event, then the answer, or `fail Bus(e)`. -/
def transaction (r : Request) (answers : List BusResponse) : Part BusResponse :=
  match answers with
  | [] => ⟨[r.event], .waits, []⟩
  | a :: rest => ⟨[r.event], if a.ok then .done a else .failed (.bus a.err), rest⟩

/-- `Sleep(ms)`: it cannot fail (R6). -/
def sleep (ms : Millis) (answers : List BusResponse) : Part Unit := ⟨[.sleep ms], .done (), answers⟩

/-- `STATUSQ()?`: the byte returned (R80). -/
def statusQuery (answers : List BusResponse) : Part Byte :=
  (transaction reqStatus answers).andThen fun a rest => done (a.byteAt 0) rest

/-- `ST <- STATUSQ()?` and the loop `while ST[7] = 1 do if TRIES = 0 then fail k ; Sleep(10) ; TRIES <- TRIES - 1 ;
ST <- STATUSQ()?` of R95 and R105, with `n` the budget left. -/
def pollLoop (k : ErrKind) (n : Nat) (answers : List BusResponse) : Part Unit :=
  (statusQuery answers).andThen fun s rest =>
    if s.getLsbD 7 then
      match n with
      | 0 => failed k rest
      | n + 1 => (sleep pollDelayMs rest).andThen fun _ rest => pollLoop k n rest
    else done () rest

/-- RESET after its gate (R90). -/
def resetPart (p : Parameters) (answers : List BusResponse) : Part Unit :=
  (transaction (reqReset p) answers).andThen fun _ rest => sleep resetDelayMs rest

/-- CALIBRATE after its gate (R95). -/
def calibratePart (p : Parameters) (answers : List BusResponse) : Part Unit :=
  (transaction (reqCalibrate p) answers).andThen fun _ rest =>
    (pollLoop .uncalibrated 10 rest).andThen fun _ rest =>
      (statusQuery rest).andThen fun s rest =>
        if s.getLsbD 3 then done () rest else failed .uncalibrated rest

/-- INIT (R70): "part 1: soft reset", "part 2: calibration". -/
def initPart (p : Parameters) (answers : List BusResponse) : Part Unit :=
  (resetPart p answers).andThen fun _ rest => calibratePart p rest

/-- Steps 4 to 7 of READ on a payload (R105). -/
def decodePart (pay : Payload) (rest : List BusResponse) : Part Reading :=
  if crc8 [pay.b0, pay.b1, pay.b2, pay.b3, pay.b4, pay.b5] = pay.b6 then
    if pay.b0.getLsbD 3 then
      done ⟨unpackHum pay, unpackTemp pay, convertRh (unpackHum pay), convertTemp (unpackTemp pay)⟩ rest
    else failed .uncalibrated rest
  else failed .checksum rest

/-- READ after its gate (R105). -/
def readPart (p : Parameters) (answers : List BusResponse) : Part Reading :=
  (transaction (reqTrigger p) answers).andThen fun _ rest =>
    (pollLoop .maxTriesExceeded 5 rest).andThen fun _ rest =>
      (transaction (reqPayload p) rest).andThen fun a rest => decodePart a.payload rest

/-- The result a part ends the command in, if it ends it: `ok` says what success is. -/
def resultOf {α : Type} (ok : α → Result) : Ending α → Option Result
  | .done a => some (ok a)
  | .failed k => some (.err k)
  | .waits => none

/-- The number of sleeps among the events. -/
def sleepCount (es : List Event) : Nat :=
  es.countP fun e => match e with | .sleep _ => true | .bus _ | .respond _ => false

/-- What it means that the block, offered the command word `w`, carries out the pseudocode part `part` and answers with
`result`, leaving HANDLE as `handle`: from IDLE it reaches IDLE having caused the part's events and then the response. -/
def CarriesOut {α : Type} (s : State) (rest : List CmdWord) (part : Part α) (result : Result)
    (handle : Bool) : Prop :=
  ∃ t : State, Reaches s t ∧ t.seq = .idle ∧ t.handle = handle ∧ t.outstanding = none ∧ t.res = none ∧
    t.trace = s.trace ++ part.events ++ [.respond (Response.ofResult result)] ∧
    t.env = { s.env with
      cmds := rest
      bus := part.rest
      sleeps := s.env.sleeps - sleepCount part.events
      takes := s.env.takes - 1 }

end Sys2Proof.Reference
end

