-- ==== Sys2Proof/Certificates/Slice0/Obligations.lean ====
section
/-! DEFINITION. The statements for the provers. Each docstring names the rule of `spec/` it formalises. Where a rule is
marked "[decision: …]" in the spec it is the spec's own choice, and the docstring says so. -/

open Sys2Proof Sys2Proof.Machine

/-! ### Encoding -/

/-- R50: the eight values of the 3-bit host command word and the rows they select, in both directions. -/
def Obligations.CommandWordTable : Prop :=
  decodeCommand 0 = .reserved0 ∧ decodeCommand 1 = .init ∧ decodeCommand 2 = .reset ∧ decodeCommand 3 = .calibrate ∧
  decodeCommand 4 = .read ∧ decodeCommand 5 = .drop ∧ decodeCommand 6 = .reserved6 ∧ decodeCommand 7 = .reserved7 ∧
  ∀ w i, decodeCommand w = i ↔ commandWord i = some w

/-- R54, R61: the bytes of the five frames for every value of the open parameters, `op` first; and, for the suggested
parameters, the words of the opcode table for two of them. -/
def Obligations.FrameByteTable : Prop :=
  (∀ p, encode p .status = some (.frame [0x71])) ∧
  (∀ p, encode p .softReset = some (.frame p.cmdReset.bytes)) ∧
  (∀ p, encode p .calTrigger = some (.frame [p.cmdCalibrate.op, p.cmdCalibrate.p1, p.cmdCalibrate.p2])) ∧
  (∀ p, encode p .measTrigger = some (.frame [p.cmdTrigger.op, p.cmdTrigger.p1, p.cmdTrigger.p2])) ∧
  (∀ p, encode p .payloadRead = some (.frame p.payloadWprefix.bytes)) ∧
  decodeTableWord 8 0x71 = some .status ∧ decodeTableWord 24 0xBE0800 = some .calTrigger

/-- Decoding gives back every encoded well-formed instruction, for all 20 rows and every value of the open parameters
(R50, R54, R61). -/
def Obligations.DecodeEncodeAgree : Prop :=
  ∀ (i : Instr) (p : Parameters) (c : Code), i.wellFormed p = true → encode p i = some c → decode p c = .ok i

/-- Every code the decoder accepts is the code of the instruction it gives, and a code it rejects is no instruction's:
each word has one meaning (R51, R54, R61). -/
def Obligations.EncodeDecodeAgree : Prop :=
  ∀ (p : Parameters) (c : Code),
    (∀ i, decode p c = .ok i → encode p i = some c) ∧
    (∀ e, decode p c = .error e → ∀ i, encode p i ≠ some c)

/-- R52: the assembler, one mnemonic a line; a program of several parts is assembled part by part, and the five
mnemonics are the command words 1 to 5. -/
def Obligations.AssemblerLineByLine : Prop :=
  assemble ["INIT", "RESET", "CALIBRATE", "READ", "DROP"] = some [1, 2, 3, 4, 5] ∧
  ∀ (a b : List String) (u v : List CmdWord),
    assemble a = some u → assemble b = some v → assemble (a ++ b) = some (u ++ v)

/-! ### Reset -/

/-- R23, R180: after block reset SEQ = IDLE, HANDLE = 0, no request is outstanding, no result is pending, no event has
happened, and with nothing offered the block does nothing, whatever its parameters and the rest of its inputs. The zero
of the scratch registers is the model's choice (log 4) and is not stated. -/
def Obligations.BlockReset : Prop :=
  ∀ (p : Parameters) (e : Env),
    (State.boot p e).seq = .idle ∧ (State.boot p e).handle = false ∧ (State.boot p e).outstanding = none ∧
    (State.boot p e).res = none ∧ (State.boot p e).trace = [] ∧
    (e.cmds = [] → step (State.boot p e) = .next (State.boot p e)) ∧
    State.reset = State.boot Config.platform Env.silent

/-! ### Host commands -/

/-- R77 (the spec's own D9, D15), rows IDLE of R112: acceptance and dispatch of all eight command words, with everything
they leave unchanged. -/
def Obligations.AcceptanceDispatch : Prop :=
  ∀ s : State, s.seq = .idle →
    exec .init s = .next { s with cmdr := 1, handle := false, seq := .rWrite } ∧
    exec .drop s = .next { s with cmdr := 5, handle := false, res := some .ok, seq := .respond } ∧
    (s.handle = true →
      exec .reset s = .next { s with cmdr := 2, seq := .rWrite } ∧
      exec .calibrate s = .next { s with cmdr := 3, seq := .cWrite } ∧
      exec .read s = .next { s with cmdr := 4, seq := .mWrite }) ∧
    (s.handle = false →
      exec .reset s = .next { s with cmdr := 2, res := some (.err .noHandle), seq := .respond } ∧
      exec .calibrate s = .next { s with cmdr := 3, res := some (.err .noHandle), seq := .respond } ∧
      exec .read s = .next { s with cmdr := 4, res := some (.err .noHandle), seq := .respond }) ∧
    exec .reserved0 s = .next { s with cmdr := 0, res := some (.err .badCommand), seq := .respond } ∧
    exec .reserved6 s = .next { s with cmdr := 6, res := some (.err .badCommand), seq := .respond } ∧
    exec .reserved7 s = .next { s with cmdr := 7, res := some (.err .badCommand), seq := .respond }

/-- R21 (the spec's own D14): while a command runs no command is taken, queued or dropped; in IDLE exactly the offered
one is taken; and only the RESPOND step lifts the wait. -/
def Obligations.CommandWaitsForIdle : Prop :=
  (∀ (s : State) (i : Instr), s.seq ≠ .idle → (commandWord i).isSome = true → exec i s = .next s) ∧
  (∀ s t : State, step s = .next t → s.seq ≠ .idle → t.env.cmds = s.env.cmds ∧ (t.seq = .idle → s.seq = .respond)) ∧
  (∀ (s t : State) (w : CmdWord) (rest : List CmdWord),
    s.seq = .idle → s.env.cmds = w :: rest → step s = .next t → t.env.cmds = rest ∧ t.cmdr = w)

/-- R51: a reserved word is answered `Err(BadCommand)` with no bus event, no delay event and no change of HANDLE: one
step to RESPOND, one step back to IDLE when the host takes the response. The decoder gives each of the three words its
row. -/
def Obligations.ReservedWordAnswered : Prop :=
  decodeCommand 0 = .reserved0 ∧ decodeCommand 6 = .reserved6 ∧ decodeCommand 7 = .reserved7 ∧
  ∀ (s : State) (w : CmdWord) (rest : List CmdWord) (n : Nat),
    (w = 0 ∨ w = 6 ∨ w = 7) → s.seq = .idle → s.env.cmds = w :: rest → s.env.takes = n + 1 →
    ∃ u t : State, step s = .next u ∧ step u = .next t ∧
      u.seq = .respond ∧ u.res = some (.err .badCommand) ∧ u.trace = s.trace ∧ u.handle = s.handle ∧
      u.outstanding = s.outstanding ∧
      t.seq = .idle ∧ t.handle = s.handle ∧ t.res = none ∧
      t.trace = s.trace ++ [.respond ⟨6, ⟨0⟩, 0, 0, 0, 0⟩] ∧
      t.env = { s.env with cmds := rest, takes := n }

/-- R153 (the spec's own D9): RESET, CALIBRATE and READ without a handle: no bus event, no delay event, HANDLE stays 0,
and the block returns to IDLE with the response NoHandle. -/
def Obligations.NoHandleRefused : Prop :=
  ∀ (s : State) (w : CmdWord) (rest : List CmdWord) (n : Nat),
    (w = 2 ∨ w = 3 ∨ w = 4) → s.seq = .idle → s.handle = false → s.env.cmds = w :: rest → s.env.takes = n + 1 →
    ∃ u t : State, step s = .next u ∧ step u = .next t ∧
      u.seq = .respond ∧ u.trace = s.trace ∧ u.handle = false ∧ u.outstanding = s.outstanding ∧
      t.seq = .idle ∧ t.handle = false ∧
      t.trace = s.trace ++ [.respond ⟨5, ⟨0⟩, 0, 0, 0, 0⟩] ∧
      t.env = { s.env with cmds := rest, takes := n }

/-- R75: DROP, with or without a handle: HANDLE <- 0, the response Ok, no other event; HANDLE, CMDR and SEQ are what the
acceptance writes. -/
def Obligations.DropDestroysHandle : Prop :=
  ∀ (s : State) (rest : List CmdWord) (n : Nat),
    s.seq = .idle → s.env.cmds = 5 :: rest → s.env.takes = n + 1 →
    step s = .next { s with
      handle := false, cmdr := 5, seq := .respond, res := some .ok, env := { s.env with cmds := rest } } ∧
    ∃ u t : State, step s = .next u ∧ step u = .next t ∧
      t.seq = .idle ∧ t.handle = false ∧ t.outstanding = s.outstanding ∧
      t.trace = s.trace ++ [.respond ⟨0, ⟨0⟩, 0, 0, 0, 0⟩] ∧
      t.env = { s.env with cmds := rest, takes := n }

/-! ### Bus frames and transactions -/

/-- R31, R32, R54: in its state, with nothing in flight, each frame goes out as one bus request to address 0x38 with its
bytes and its read length; nothing else changes. -/
def Obligations.FrameIssued : Prop :=
  ∀ s : State, s.outstanding = none →
    (s.seq = .rWrite → exec .softReset s = .next { s with
      outstanding := some (.bus ⟨.write, 0x38, s.cfg.cmdReset, 0⟩)
      trace := s.trace ++ [.bus ⟨.write, 0x38, s.cfg.cmdReset, 0⟩] }) ∧
    (s.seq = .cWrite → exec .calTrigger s = .next { s with
      outstanding := some (.bus ⟨.write, 0x38, s.cfg.cmdCalibrate.string, 0⟩)
      trace := s.trace ++ [.bus ⟨.write, 0x38, s.cfg.cmdCalibrate.string, 0⟩] }) ∧
    (s.seq = .mWrite → exec .measTrigger s = .next { s with
      outstanding := some (.bus ⟨.write, 0x38, s.cfg.cmdTrigger.string, 0⟩)
      trace := s.trace ++ [.bus ⟨.write, 0x38, s.cfg.cmdTrigger.string, 0⟩] }) ∧
    (s.seq = .mFetch → exec .payloadRead s = .next { s with
      outstanding := some (.bus ⟨.writeRead, 0x38, s.cfg.payloadWprefix, 7⟩)
      trace := s.trace ++ [.bus ⟨.writeRead, 0x38, s.cfg.payloadWprefix, 7⟩] }) ∧
    (s.seq = .cPoll ∨ s.seq = .cCheck ∨ s.seq = .mPoll →
      exec .status s = .next { s with
        outstanding := some (.bus ⟨.writeRead, 0x38, .b1 0x71, 1⟩)
        trace := s.trace ++ [.bus ⟨.writeRead, 0x38, .b1 0x71, 1⟩] } ∧
      exec .statusq s = exec .status s)

/-- R112 rows of R_WRITE, C_WRITE, M_WRITE and M_FETCH; R31, R90, R95, R105: what the answer of each transaction does.
On `err(e)` the command fails `Bus(e)` with the transport's error unchanged and the payload register untouched. -/
def Obligations.FrameAnswered : Prop :=
  ∀ (s : State) (r : Request) (a : BusResponse) (rest : List BusResponse),
    s.outstanding = some r → s.env.bus = a :: rest →
    (a.ok = true →
      (s.seq = .rWrite → exec .softReset s = .next { s with
        outstanding := none, env := { s.env with bus := rest }, seq := .rSleep }) ∧
      (s.seq = .cWrite → exec .calTrigger s = .next { s with
        outstanding := none, env := { s.env with bus := rest }, tries := 10, seq := .cPoll }) ∧
      (s.seq = .mWrite → exec .measTrigger s = .next { s with
        outstanding := none, env := { s.env with bus := rest }, tries := 5, seq := .mPoll }) ∧
      (s.seq = .mFetch → exec .payloadRead s = .next { s with
        outstanding := none, env := { s.env with bus := rest }, seq := .mDecode
        pay := ⟨a.rdata.extractLsb' 0 8, a.rdata.extractLsb' 8 8, a.rdata.extractLsb' 16 8, a.rdata.extractLsb' 24 8,
          a.rdata.extractLsb' 32 8, a.rdata.extractLsb' 40 8, a.rdata.extractLsb' 48 8⟩ })) ∧
    (a.ok = false → ∀ i : Instr,
      (s.seq = .rWrite ∧ i = .softReset) ∨ (s.seq = .cWrite ∧ i = .calTrigger) ∨
      (s.seq = .mWrite ∧ i = .measTrigger) ∨ (s.seq = .mFetch ∧ i = .payloadRead) →
      exec i s = .next { s with
        outstanding := none, env := { s.env with bus := rest }, res := some (.err (.bus a.err)), seq := .respond })

/-- R18, U12: while the request in flight is not answered the block waits in the state that issued it, in a bus
transaction and in a sleep alike. -/
def Obligations.UnansweredRequestWaits : Prop :=
  ∀ (s : State) (r : Request), s.outstanding = some r →
    (s.env.bus = [] →
      exec .softReset s = .next s ∧ exec .calTrigger s = .next s ∧ exec .measTrigger s = .next s ∧
      exec .payloadRead s = .next s ∧ exec .status s = .next s ∧ exec .statusq s = .next s) ∧
    (s.env.sleeps = 0 → s.seq = .rSleep ∨ s.seq = .cSleep ∨ s.seq = .mSleep → step s = .next s)

/-- R32 (column "issued in state"), log 14: outside the state that issues it no frame and no status query changes
anything. That `exec` holds there is the model's choice; the table only says where a frame is issued. -/
def Obligations.FrameOnlyInItsState : Prop :=
  ∀ s : State,
    (s.seq ≠ .rWrite → exec .softReset s = .next s) ∧
    (s.seq ≠ .cWrite → exec .calTrigger s = .next s) ∧
    (s.seq ≠ .mWrite → exec .measTrigger s = .next s) ∧
    (s.seq ≠ .mFetch → exec .payloadRead s = .next s) ∧
    (s.seq ≠ .cPoll → s.seq ≠ .cCheck → s.seq ≠ .mPoll → exec .status s = .next s ∧ exec .statusq s = .next s)

/-- R107 (the spec's own D7): a budget of zero at the entry of the measurement loop fails MaxTriesExceeded before any
status query, and any other budget enters the loop with it. -/
def Obligations.ZeroBudgetFails : Prop :=
  ∀ (n : Tries) (s : State),
    (n = 0 → enterMeasureLoop n s = { s with tries := 0, res := some (.err .maxTriesExceeded), seq := .respond }) ∧
    (n ≠ 0 → enterMeasureLoop n s = { s with tries := n, seq := .mPoll })

/-! ### The status query and its callers -/

/-- R80: STATUSQ in each of its three states: it issues one transaction, T4; on success, for every byte, ST is the byte
returned; on failure ST is as before and the caller fails `Bus(e)`; either way it issues no second one and no sleep.
Nothing but ST, the decoder's output and what the caller's test writes (SEQ, the pending result, and HANDLE for INIT)
changes. In C_CHECK the command is one that passes through it (R12). -/
def Obligations.StatusQueryRoundTrip : Prop :=
  ∀ s : State, s.seq = .cPoll ∨ s.seq = .cCheck ∨ s.seq = .mPoll → (s.seq = .cCheck → s.cmdr = 1 ∨ s.cmdr = 3) →
    (s.outstanding = none → exec .statusq s = .next { s with
      outstanding := some (.bus ⟨.writeRead, 0x38, .b1 0x71, 1⟩)
      trace := s.trace ++ [.bus ⟨.writeRead, 0x38, .b1 0x71, 1⟩] }) ∧
    (∀ (r : Request) (a : BusResponse) (rest : List BusResponse), s.outstanding = some r → s.env.bus = a :: rest →
      (a.ok = false → exec .statusq s = .next { s with
        outstanding := none, env := { s.env with bus := rest }, res := some (.err (.bus a.err)), seq := .respond }) ∧
      (a.ok = true → ∃ t : State, exec .statusq s = .next t ∧
        t = { s with
          outstanding := none, env := { s.env with bus := rest }, st := a.rdata.extractLsb' 0 8
          dp := { s.dp with status := decodeStatus (a.rdata.extractLsb' 0 8) }
          seq := t.seq, res := t.res, handle := t.handle }))

/-- R95, R97 (cause 1), R112 rows of C_POLL (the spec's own D6): the calibration loop's busy test. -/
def Obligations.CalibrationPoll : Prop :=
  ∀ (s : State) (r : Request) (a : BusResponse) (rest : List BusResponse) (b : Byte),
    s.seq = .cPoll → s.outstanding = some r → s.env.bus = a :: rest → a.ok = true → b = a.rdata.extractLsb' 0 8 →
    (b.getLsbD 7 = false → exec .statusq s = .next { s with
      outstanding := none, env := { s.env with bus := rest }, st := b, dp := { s.dp with status := decodeStatus b }
      seq := .cCheck }) ∧
    (b.getLsbD 7 = true → s.tries ≠ 0 → exec .statusq s = .next { s with
      outstanding := none, env := { s.env with bus := rest }, st := b, dp := { s.dp with status := decodeStatus b }
      seq := .cSleep }) ∧
    (b.getLsbD 7 = true → s.tries = 0 → exec .statusq s = .next { s with
      outstanding := none, env := { s.env with bus := rest }, st := b, dp := { s.dp with status := decodeStatus b }
      res := some (.err .uncalibrated), seq := .respond })

/-- R98, R97 (cause 2), R71, R112 rows of C_CHECK (the loop and HANDLE: the spec's own D6, D9): the check makes a query of its own and tests only CAL_EN of the fresh
byte, for any BUSY bit and whatever ST, the byte that ended the loop, holds; CMDR tells INIT, which sets HANDLE, from
CALIBRATE, which does not. -/
def Obligations.CalibrationCheck : Prop :=
  (∀ s : State, s.seq = .cCheck → s.outstanding = none → exec .statusq s = .next { s with
    outstanding := some (.bus ⟨.writeRead, 0x38, .b1 0x71, 1⟩)
    trace := s.trace ++ [.bus ⟨.writeRead, 0x38, .b1 0x71, 1⟩] }) ∧
  ∀ (s : State) (r : Request) (a : BusResponse) (rest : List BusResponse) (b : Byte),
    s.seq = .cCheck → s.outstanding = some r → s.env.bus = a :: rest → a.ok = true → b = a.rdata.extractLsb' 0 8 →
    (b.getLsbD 3 = true → s.cmdr = 3 → exec .statusq s = .next { s with
      outstanding := none, env := { s.env with bus := rest }, st := b, dp := { s.dp with status := decodeStatus b }
      res := some .ok, seq := .respond }) ∧
    (b.getLsbD 3 = true → s.cmdr = 1 → exec .statusq s = .next { s with
      outstanding := none, env := { s.env with bus := rest }, st := b, dp := { s.dp with status := decodeStatus b }
      handle := true, res := some .ok, seq := .respond }) ∧
    (b.getLsbD 3 = false → exec .statusq s = .next { s with
      outstanding := none, env := { s.env with bus := rest }, st := b, dp := { s.dp with status := decodeStatus b }
      res := some (.err .uncalibrated), seq := .respond })

/-- R106, R112 rows of M_POLL (the spec's own D7): the measurement loop's busy test; not-busy at the last permitted query
goes on to the payload although TRIES is 0. -/
def Obligations.MeasurementPoll : Prop :=
  ∀ (s : State) (r : Request) (a : BusResponse) (rest : List BusResponse) (b : Byte),
    s.seq = .mPoll → s.outstanding = some r → s.env.bus = a :: rest → a.ok = true → b = a.rdata.extractLsb' 0 8 →
    (b.getLsbD 7 = false → exec .statusq s = .next { s with
      outstanding := none, env := { s.env with bus := rest }, st := b, dp := { s.dp with status := decodeStatus b }
      seq := .mFetch }) ∧
    (b.getLsbD 7 = true → s.tries ≠ 0 → exec .statusq s = .next { s with
      outstanding := none, env := { s.env with bus := rest }, st := b, dp := { s.dp with status := decodeStatus b }
      seq := .mSleep }) ∧
    (b.getLsbD 7 = true → s.tries = 0 → exec .statusq s = .next { s with
      outstanding := none, env := { s.env with bus := rest }, st := b, dp := { s.dp with status := decodeStatus b }
      res := some (.err .maxTriesExceeded), seq := .respond })

/-- R57: two status bytes that agree in bits 7 and 3 give the same behaviour in every state that queries the status; and
two accepted payloads that agree in `PAY[0][3]` and in the sample bytes give the same result. -/
def Obligations.UnreadStatusBitsIgnored : Prop :=
  (∀ (s : State) (a b : BusResponse) (rest : List BusResponse),
    s.seq = .cPoll ∨ s.seq = .cCheck ∨ s.seq = .mPoll → s.outstanding ≠ none → a.ok = true → b.ok = true →
    (a.byteAt 0).getLsbD 7 = (b.byteAt 0).getLsbD 7 → (a.byteAt 0).getLsbD 3 = (b.byteAt 0).getLsbD 3 →
    observeOutcome (step { s with env := { s.env with bus := a :: rest } }) =
      observeOutcome (step { s with env := { s.env with bus := b :: rest } })) ∧
  (∀ (s : State) (x c : Byte), s.seq = .mDecode → x.getLsbD 3 = s.pay.b0.getLsbD 3 →
    crc8 s.pay.covered = s.pay.b6 → c = crc8 [x, s.pay.b1, s.pay.b2, s.pay.b3, s.pay.b4, s.pay.b5] →
    observeOutcome (step { s with pay := { s.pay with b0 := x, b6 := c } }) = observeOutcome (step s))

/-! ### Status decoder -/

/-- R83 (positions: the spec's own D3): STATUS_DECODE of either operand gives the seven fields of its byte, which for
`busy` and `cal_en` are the mask tests, and changes nothing but the decoder's output. -/
def Obligations.StatusDecoded : Prop :=
  (∀ s : State,
    exec (.statusDecode .st) s = .next { s with dp := { s.dp with status := decodeStatus s.st } } ∧
    exec (.statusDecode .pay0) s = .next { s with dp := { s.dp with status := decodeStatus s.pay.b0 } }) ∧
  (∀ b : Byte,
    (decodeStatus b).busy = b.getLsbD 7 ∧ (decodeStatus b).mode = b.extractLsb 6 5 ∧
    (decodeStatus b).crcEn = b.getLsbD 4 ∧ (decodeStatus b).calEn = b.getLsbD 3 ∧
    (decodeStatus b).fifoEn = b.getLsbD 2 ∧ (decodeStatus b).fifoFull = b.getLsbD 1 ∧
    (decodeStatus b).fifoEmpty = b.getLsbD 0 ∧
    ((decodeStatus b).busy = true ↔ b &&& 0x80 ≠ 0) ∧ ((decodeStatus b).calEn = true ↔ b &&& 0x08 ≠ 0)) ∧
  decodeStatus 0x18 = ⟨false, 0, true, true, false, false, false⟩

/-! ### CRC validator -/

/-- R120 (the algorithm is the spec's own from general knowledge, G6, log 6): CRC8 is run on `PAY[0..5]`, a pure function
whose value for the empty string is the initial value and which takes each further byte by `c ^ m[i]` and eight turns of
the inner loop; nothing but its output changes; and three reference values of R124. -/
def Obligations.CrcExecuted : Prop :=
  (∀ s : State, exec .crc8 s = .next { s with dp := { s.dp with
    crc := crc8 [s.pay.b0, s.pay.b1, s.pay.b2, s.pay.b3, s.pay.b4, s.pay.b5] } }) ∧
  crc8 [] = 0xFF ∧ (∀ (m : List Byte) (b : Byte), crc8 (m ++ [b]) = crcShifts 8 (crc8 m ^^^ b)) ∧
  (∀ c : Byte, crcShifts 0 c = c ∧
    ∀ n, crcShifts (n + 1) c = crcShifts n (if c.getLsbD 7 = true then (c <<< 1) ^^^ 0x31 else c <<< 1)) ∧
  crc8 [0x18, 0x19, 0x99, 0x9A, 0x66, 0x66] = 0x57 ∧ crc8 [0, 0, 0, 0, 0, 0] = 0x6A ∧
  crc8 [0x31, 0x32, 0x33, 0x34, 0x35, 0x36, 0x37, 0x38, 0x39] = 0xF7

/-- R39: "The CRC consumes each byte most significant bit first and emits its result unreflected": CRC8 is the shift
register fed with the bits of the message, byte after byte, bit 7 to bit 0 of each; and the instruction feeds it with
`PAY[0]` to `PAY[5]` in index order. -/
def Obligations.CrcConsumesBitsMsbFirst : Prop :=
  (∀ m : List Byte,
    crc8 m = (m.flatMap fun b => (List.range 8).map fun k => b.getLsbD (7 - k)).foldl
      (fun (c : Byte) (x : Bool) => if (c.getLsbD 7 ^^ x) = true then (c <<< 1) ^^^ 0x31 else c <<< 1) 0xFF) ∧
  (∀ s : State, ∃ t : State, exec .crc8 s = .next t ∧
    t.dp.crc = crc8 [s.pay.b0, s.pay.b1, s.pay.b2, s.pay.b3, s.pay.b4, s.pay.b5])

/-- R121: the table form is the bit-serial form, for byte strings of any length. -/
def Obligations.CrcTableAgrees : Prop := ∀ m : List Byte, crc8ByTable m = crc8 m

/-- R122(a): the residue law, and that the check of R108 is the test `CRC8(PAY[0..6]) = 0`. -/
def Obligations.CrcResidue : Prop :=
  (∀ m : List Byte, crc8 (m ++ [crc8 m]) = 0) ∧
  (∀ p : Payload, crc8 p.covered = p.b6 ↔ crc8 p.bytes = 0)

/-- R122(b): CRC8 is affine in the message, for byte strings of equal length. -/
def Obligations.CrcAffine : Prop :=
  ∀ a b : List Byte, a.length = b.length →
    crc8 (List.zipWith (· ^^^ ·) a b) = crc8 a ^^^ crc8 b ^^^ crc8 (List.replicate a.length 0)

/-- R122(c): an accepted payload with any one bit flipped, any two bits flipped, or any error confined to 8 consecutive
bits of the 56, is not accepted. -/
def Obligations.CrcDetectsErrors : Prop :=
  ∀ v e : BitVec 56,
    crc8 (payloadOfBits v).covered = (payloadOfBits v).b6 →
    ((∃ i, i < 56 ∧ e = (1#56) <<< i) ∨
      (∃ i j, i < j ∧ j < 56 ∧ e = ((1#56) <<< i) ^^^ ((1#56) <<< j)) ∨
      (∃ (i : Nat) (b : Byte), i ≤ 48 ∧ b ≠ 0 ∧ e = (b.setWidth 56) <<< i)) →
    crc8 (payloadOfBits (v ^^^ e)).covered ≠ (payloadOfBits (v ^^^ e)).b6

/-! ### Payload unpacker and unit converter -/

/-- R130: UNPACK_H runs on every payload, changes nothing but H_RAW, and gives the concatenation of `PAY[1]`, `PAY[2]`
and the high nibble of `PAY[3]`, in which no other byte has a part; its three terms can be added as well; every value is
reached. -/
def Obligations.HumidityUnpacked : Prop :=
  (∀ s : State, exec .unpackH s = .next { s with dp := { s.dp with hRaw := unpackHum s.pay } }) ∧
  (∀ p : Payload,
    unpackHum p = p.b1 ++ p.b2 ++ p.b3.extractLsb 7 4 ∧
    (unpackHum p).toNat = p.b1.toNat * 2 ^ 12 + p.b2.toNat * 2 ^ 4 + p.b3.toNat / 2 ^ 4) ∧
  (∀ h : Raw, ∃ p : Payload, unpackHum p = h)

/-- R131: UNPACK_T runs on every payload, changes nothing but T_RAW, and gives the concatenation of the low nibble of
`PAY[3]`, `PAY[4]` and `PAY[5]`, in which no other byte has a part; every value is reached. -/
def Obligations.TemperatureUnpacked : Prop :=
  (∀ s : State, exec .unpackT s = .next { s with dp := { s.dp with tRaw := unpackTemp s.pay } }) ∧
  (∀ p : Payload,
    unpackTemp p = p.b3.extractLsb 3 0 ++ p.b4 ++ p.b5 ∧
    (unpackTemp p).toNat = (p.b3.toNat % 2 ^ 4) * 2 ^ 16 + p.b4.toNat * 2 ^ 8 + p.b5.toNat) ∧
  (∀ t : Raw, ∃ p : Payload, unpackTemp p = t)

/-- R132: PACK is the inverse of the unpacking, both ways: the map from the five sample bytes to the two samples is a
bijection. -/
def Obligations.PackUnpackInverse : Prop :=
  (∀ (x : Byte) (h t : Raw) (c : Byte),
    unpackHum (packPayload x h t c) = h ∧ unpackTemp (packPayload x h t c) = t) ∧
  (∀ p : Payload, packPayload p.b0 (unpackHum p) (unpackTemp p) p.b6 = p) ∧
  packPayload 0x18 0x19999 0xA6666 0x57 = ⟨0x18, 0x19, 0x99, 0x9A, 0x66, 0x66, 0x57⟩

/-- R134 (the format is the spec's own D11): CONV_RH runs on every sample, changes nothing but RH_FIX, is the exact
product 100 * h in 27 bits, 26 bits would not do, is strictly increasing, and its integer part is at most 99. -/
def Obligations.HumidityConverted : Prop :=
  (∀ s : State, exec .convRh s = .next { s with dp := { s.dp with rhFix := convertRh s.dp.hRaw } }) ∧
  (∀ h : Raw, (convertRh h).toNat = 100 * h.toNat ∧ (convertRh h >>> 20).toNat ≤ 99) ∧
  2 ^ 26 ≤ (convertRh 0xFFFFF).toNat ∧ convertRh 0x80000 = 0x3200000 ∧
  (∀ h k : Raw, h < k → convertRh h < convertRh k)

/-- R135 (the format is the spec's own D11): CONV_T runs on every sample, changes nothing but T_FIX, is exactly
200 * t - 52428800 in 29 bits two's complement, 28 bits would not do, is strictly increasing, and the floor of the
Celsius value is the arithmetic shift by 20. -/
def Obligations.TemperatureConverted : Prop :=
  (∀ s : State, exec .convT s = .next { s with dp := { s.dp with tFix := convertTemp s.dp.tRaw } }) ∧
  (∀ t : Raw, (convertTemp t).toInt = 200 * (t.toNat : Int) - 52428800 ∧
    ((convertTemp t).sshiftRight 20).toInt = (convertTemp t).toInt / 2 ^ 20) ∧
  2 ^ 27 ≤ (convertTemp 0xFFFFF).toInt ∧ convertTemp 0 = 0x1CE00000 ∧ convertTemp 0x40000 = 0 ∧
  (∀ t u : Raw, t < u → (convertTemp t).toInt < (convertTemp u).toInt)

/-- R137: the two fixed-point outputs are the source's real formulas exactly, with 20 fraction bits, and the temperature
is in `[-50, 150)`. -/
def Obligations.ConversionsExact : Prop :=
  (∀ h : Raw, ((convertRh h).toNat : ℚ) / 2 ^ 20 = 100 * (h.toNat : ℚ) / 2 ^ 20 ∧
    ((convertRh h).toNat : ℚ) / 2 ^ 20 < 100) ∧
  (∀ t : Raw, ((convertTemp t).toInt : ℚ) / 2 ^ 20 = 200 * (t.toNat : ℚ) / 2 ^ 20 - 50 ∧
    -50 ≤ ((convertTemp t).toInt : ℚ) / 2 ^ 20 ∧ ((convertTemp t).toInt : ℚ) / 2 ^ 20 < 150)

/-! ### The sequencer's own steps -/

/-- R90, R95, R105, R162, rows R_SLEEP, C_SLEEP and M_SLEEP of R112: the sleeps ask for 20 ms and 10 ms; after the answer
the reset ends `Ok` or goes on to the calibration by CMDR, and a poll counts down and queries again. -/
def Obligations.SleepSteps : Prop :=
  ∀ s : State,
    (s.outstanding = none →
      (s.seq = .rSleep → step s = .next { s with
        outstanding := some (.delay 20), trace := s.trace ++ [.sleep 20] }) ∧
      (s.seq = .cSleep ∨ s.seq = .mSleep → step s = .next { s with
        outstanding := some (.delay 10), trace := s.trace ++ [.sleep 10] })) ∧
    (∀ (r : Request) (n : Nat), s.outstanding = some r → s.env.sleeps = n + 1 →
      (s.seq = .rSleep → s.cmdr = 2 → step s = .next { s with
        outstanding := none, env := { s.env with sleeps := n }, res := some .ok, seq := .respond }) ∧
      (s.seq = .rSleep → s.cmdr = 1 → step s = .next { s with
        outstanding := none, env := { s.env with sleeps := n }, seq := .cWrite }) ∧
      (s.seq = .cSleep → s.tries ≠ 0 → step s = .next { s with
        outstanding := none, env := { s.env with sleeps := n }, tries := s.tries - 1, seq := .cPoll }) ∧
      (s.seq = .mSleep → s.tries ≠ 0 → step s = .next { s with
        outstanding := none, env := { s.env with sleeps := n }, tries := s.tries - 1, seq := .mPoll }))

/-- R108, R109, rows 6 to 8 of R110, R155: the decode stage. A wrong checksum gives Checksum whatever the flag, with the
unpacker's and converter's outputs untouched; then a clear `PAY[0][3]` gives Uncalibrated; else the reading. `PAY[0][7]`
and ST are not consulted, and no event happens. -/
def Obligations.DecodeStagePriority : Prop :=
  ∀ (s : State), s.seq = .mDecode →
    let c := crc8 [s.pay.b0, s.pay.b1, s.pay.b2, s.pay.b3, s.pay.b4, s.pay.b5]
    (c ≠ s.pay.b6 → step s = .next { s with
      dp := { s.dp with crc := c }, res := some (.err .checksum), seq := .respond }) ∧
    (c = s.pay.b6 → s.pay.b0.getLsbD 3 = false → step s = .next { s with
      dp := { s.dp with crc := c, status := decodeStatus s.pay.b0 }
      res := some (.err .uncalibrated), seq := .respond }) ∧
    (c = s.pay.b6 → s.pay.b0.getLsbD 3 = true → step s = .next { s with
      dp := ⟨c, decodeStatus s.pay.b0, unpackHum s.pay, unpackTemp s.pay, convertRh (unpackHum s.pay),
        convertTemp (unpackTemp s.pay)⟩
      res := some (.okReading ⟨unpackHum s.pay, unpackTemp s.pay, convertRh (unpackHum s.pay),
        convertTemp (unpackTemp s.pay)⟩)
      seq := .respond })

/-- R105 steps 4 to 7: the decode stage runs the functional units as the opcode table's rows, in the source's order:
what each of CRC8, STATUS_DECODE, UNPACK_H, UNPACK_T, CONV_RH and CONV_T does by itself is what it does there. -/
def Obligations.DecodeStageRunsUnits : Prop :=
  ∀ s : State, s.seq = .mDecode → crc8 s.pay.covered = s.pay.b6 → s.pay.b0.getLsbD 3 = true →
    ∃ s1 s2 s3 s4 s5 s6 : State,
      exec .crc8 s = .next s1 ∧ exec (.statusDecode .pay0) s1 = .next s2 ∧ exec .unpackH s2 = .next s3 ∧
      exec .unpackT s3 = .next s4 ∧ exec .convRh s4 = .next s5 ∧ exec .convT s5 = .next s6 ∧
      s1.dp.crc = s1.pay.b6 ∧ s2.dp.status.calEn = true ∧
      step s = .next { s6 with
        res := some (.okReading ⟨s6.dp.hRaw, s6.dp.tRaw, s6.dp.rhFix, s6.dp.tFix⟩), seq := .respond }

/-- R60 (numbers: the spec's own D10, D21): the response of every result: its code, the transport's error only after
Bus, the reading fields only after a reading. -/
def Obligations.ResponseWord : Prop :=
  Response.ofResult .ok = ⟨0, ⟨0⟩, 0, 0, 0, 0⟩ ∧
  (∀ r : Reading, Response.ofResult (.okReading r) = ⟨0, ⟨0⟩, r.hRaw, r.tRaw, r.rhFix, r.tFix⟩) ∧
  (∀ e : BusErr, Response.ofResult (.err (.bus e)) = ⟨1, e, 0, 0, 0, 0⟩) ∧
  Response.ofResult (.err .uncalibrated) = ⟨2, ⟨0⟩, 0, 0, 0, 0⟩ ∧
  Response.ofResult (.err .checksum) = ⟨3, ⟨0⟩, 0, 0, 0, 0⟩ ∧
  Response.ofResult (.err .maxTriesExceeded) = ⟨4, ⟨0⟩, 0, 0, 0, 0⟩ ∧
  Response.ofResult (.err .noHandle) = ⟨5, ⟨0⟩, 0, 0, 0, 0⟩ ∧
  Response.ofResult (.err .badCommand) = ⟨6, ⟨0⟩, 0, 0, 0, 0⟩ ∧
  ∀ r : Result, (Response.ofResult r).rspErr ≠ 7

/-- R112 row RESPOND, R156, R158, R184, R19: the response is delivered once, the block is back in IDLE with HANDLE and
parameters as they were and no result pending; while the host does not take it the block stays. The block keeps no copy of
the outputs (R19); that the model has 0 at all units' outputs there, CRC and status fields too, is the model's choice
(log 13). Nothing is said of the scratch registers there (R11). -/
def Obligations.RespondReturnsToIdle : Prop :=
  ∀ (s : State) (r : Result), s.seq = .respond → s.res = some r →
    (s.env.takes = 0 → step s = .next s) ∧
    (∀ n, s.env.takes = n + 1 → ∃ t : State, step s = .next t ∧
      t.seq = .idle ∧ t.res = none ∧ t.handle = s.handle ∧ t.cfg = s.cfg ∧ t.outstanding = s.outstanding ∧
      t.dp = Datapath.quiet ∧ t.env = { s.env with takes := n } ∧
      t.trace = s.trace ++ [.respond (Response.ofResult r)])

/-! ### Whole-machine rules -/

/-- A step runs the decoded instruction: in IDLE the row the decoder reads from the word on the host's port, which is
taken off it; in a state with a bus event that state's transaction (R12, R32, R77). A host command word, or the word of
a frame, placed by `withFetchWord` is the next instruction run; the placing is the model's choice (log 12), and so are the
words of the frames with suggested bytes (log 11). For 0x71 the step runs STATUSQ, which does there what STATUS does. The
word of PAYLOAD_READ is RESERVED0's (log 11) and falls under the command words. -/
def Obligations.StepRunsSelectedInstruction : Prop :=
  (∀ (s : State) (w : CmdWord) (rest : List CmdWord), s.seq = .idle → s.env.cmds = w :: rest →
    step s = exec (decodeCommand w) { s with env := { s.env with cmds := rest } }) ∧
  (∀ s : State,
    (s.seq = .idle → s.env.cmds = [] → step s = .next s) ∧
    (s.seq = .rWrite → step s = exec .softReset s) ∧ (s.seq = .cWrite → step s = exec .calTrigger s) ∧
    (s.seq = .mWrite → step s = exec .measTrigger s) ∧ (s.seq = .mFetch → step s = exec .payloadRead s) ∧
    (s.seq = .cPoll ∨ s.seq = .cCheck ∨ s.seq = .mPoll → step s = exec .statusq s)) ∧
  (∀ (s : State) (w : Nat), w < 8 →
    step (s.withFetchWord 8 w) = exec (decodeCommand (BitVec.ofNat 3 w)) { s with seq := .idle }) ∧
  (∀ s : State,
    step (s.withFetchWord 8 0x71) = exec .statusq { s with seq := .cPoll, outstanding := none } ∧
    step (s.withFetchWord 8 0x71) = exec .status { s with seq := .cPoll, outstanding := none } ∧
    step (s.withFetchWord 8 0xBA) = exec .softReset { s with
      cfg := { s.cfg with cmdReset := .b1 0xBA }, seq := .rWrite, outstanding := none } ∧
    step (s.withFetchWord 24 0xBE0800) = exec .calTrigger { s with
      cfg := { s.cfg with cmdCalibrate := ⟨0xBE, 0x08, 0x00⟩ }, seq := .cWrite, outstanding := none } ∧
    step (s.withFetchWord 24 0xAC3300) = exec .measTrigger { s with
      cfg := { s.cfg with cmdTrigger := ⟨0xAC, 0x33, 0x00⟩ }, seq := .mWrite, outstanding := none })

/-- R13: only INIT and DROP write HANDLE: a step that changes it is the acceptance of one of the two, which clears it, or
the successful end of INIT, which sets it. -/
def Obligations.HandleWriters : Prop :=
  ∀ s t : State, step s = .next t → t.handle ≠ s.handle →
    (s.seq = .idle ∧ t.handle = false ∧ ∃ rest, s.env.cmds = 1 :: rest ∨ s.env.cmds = 5 :: rest) ∨
    (s.seq = .cCheck ∧ s.cmdr = 1 ∧ t.handle = true ∧ t.seq = .respond ∧ t.res = some .ok)

/-- R15, R190: TRIES is loaded with 10 or 5, decremented by exactly 1 by the answer of a poll's `Sleep(10)`, tested for
zero before that sleep, and never above 10. (Returning to IDLE it is dead, R11, and within the bound.) -/
def Obligations.TriesNeverWraps : Prop :=
  ∀ s t : State, step s = .next t →
    (s.tries.toNat ≤ 10 → t.tries.toNat ≤ 10) ∧
    (s.seq ≠ .respond → t.tries ≠ s.tries →
      (s.seq = .cWrite ∧ t.tries = 10 ∧ t.seq = .cPoll) ∨ (s.seq = .mWrite ∧ t.tries = 5 ∧ t.seq = .mPoll) ∨
      ((s.seq = .cSleep ∨ s.seq = .mSleep) ∧ t.env.sleeps + 1 = s.env.sleeps ∧ t.tries.toNat + 1 = s.tries.toNat)) ∧
    ((s.seq = .cPoll ∧ t.seq = .cSleep) ∨ (s.seq = .mPoll ∧ t.seq = .mSleep) → 0 < s.tries.toNat) ∧
    (s.seq ≠ .cSleep ∧ t.seq = .cSleep ∨ s.seq ≠ .mSleep ∧ t.seq = .mSleep → s.seq = .cPoll ∨ s.seq = .mPoll)

/-- R32: "No other shape ever appears on the bus request channel": a step causes at most one event, and a bus event is
one of T1 to T5, with the bytes of its row, in the state that issues it; in a state that meets the invariant the running
command is one of the row's last column. -/
def Obligations.OnlyFiveTransactions : Prop :=
  ∀ s t : State, step s = .next t →
    t.trace = s.trace ∨ ∃ e, t.trace = s.trace ++ [e] ∧ ∀ r, e = .bus r →
      (s.seq = .rWrite ∧ r = ⟨.write, 0x38, s.cfg.cmdReset, 0⟩ ∧ (ControlInv s → s.cmdr = 2 ∨ s.cmdr = 1)) ∨
      (s.seq = .cWrite ∧ r = ⟨.write, 0x38, .b3 s.cfg.cmdCalibrate.op s.cfg.cmdCalibrate.p1 s.cfg.cmdCalibrate.p2, 0⟩ ∧
        (ControlInv s → s.cmdr = 3 ∨ s.cmdr = 1)) ∨
      (s.seq = .mWrite ∧ r = ⟨.write, 0x38, .b3 s.cfg.cmdTrigger.op s.cfg.cmdTrigger.p1 s.cfg.cmdTrigger.p2, 0⟩ ∧
        (ControlInv s → s.cmdr = 4)) ∨
      ((s.seq = .cPoll ∨ s.seq = .cCheck ∨ s.seq = .mPoll) ∧ r = ⟨.writeRead, 0x38, .b1 0x71, 1⟩ ∧
        (ControlInv s → s.cmdr = 1 ∨ s.cmdr = 3 ∨ s.cmdr = 4)) ∨
      (s.seq = .mFetch ∧ r = ⟨.writeRead, 0x38, s.cfg.payloadWprefix, 7⟩ ∧ (ControlInv s → s.cmdr = 4))

/-- R40: an event is issued only when the one before has been answered: in a state that meets the invariant, while a
request is in flight a step either changes nothing or consumes exactly its answer, and causes no event. -/
def Obligations.EventsInProgramOrder : Prop :=
  ∀ (s t : State) (r : Request), ControlInv s → s.outstanding = some r → step s = .next t →
    t.trace = s.trace ∧
    (t = s ∨ (t.outstanding = none ∧
      (match r with
        | .bus _ => t.env.sleeps = s.env.sleeps ∧ ∃ a, s.env.bus = a :: t.env.bus
        | .delay _ => t.env.bus = s.env.bus ∧ s.env.sleeps = t.env.sleeps + 1)))

/-- R186, the busy hazard: while the answers show BUSY the block polls, a sleep of 10 ms between two queries; the
payload read goes out only when the last status byte showed BUSY = 0; and from that byte to the payload read nothing else
happens. -/
def Obligations.BusyHazardKept : Prop :=
  (∀ s t : State, ControlInv s → step s = .next t →
    t.trace = s.trace ++ [.bus ⟨.writeRead, 0x38, s.cfg.payloadWprefix, 7⟩] → s.st.getLsbD 7 = false) ∧
  (∀ s t : State, step s = .next t →
    (s.seq ≠ .mFetch → t.seq = .mFetch → s.seq = .mPoll ∧ t.st.getLsbD 7 = false ∧ t.trace = s.trace) ∧
    (s.seq = .mFetch → s.outstanding = none → t.seq = .mFetch ∧ t.st = s.st ∧
      t.trace = s.trace ++ [.bus ⟨.writeRead, 0x38, s.cfg.payloadWprefix, 7⟩]) ∧
    (s.seq = .cPoll ∨ s.seq = .mPoll → t.seq ≠ s.seq → t.res = none → t.st.getLsbD 7 = true →
      (t.seq = .cSleep ∨ t.seq = .mSleep) ∧ ∀ u, t.outstanding = none → step t = .next u →
        u.trace = t.trace ++ [.sleep 10] ∧ u.seq = t.seq))

/-- R156, `fail K`, what this block has in place of an exception: no further event, the pending result is `Err(K)`, the
response carries it with the reading fields zero, and the block is back in IDLE; nothing is saved and nothing vectored.
HANDLE is 0 for a failed INIT and otherwise as it was; every event before has been answered. -/
def Obligations.FailureAborts : Prop :=
  (∀ (k : ErrKind) (s : State), failWith k s = { s with res := some (.err k), seq := .respond }) ∧
  ∀ (s t : State) (k : ErrKind), ControlInv s → s.seq ≠ .respond → step s = .next t → t.res = some (.err k) →
    t.seq = .respond ∧ t.outstanding = none ∧ t.trace = s.trace ∧
    (t.cmdr = 1 → t.handle = false) ∧ (t.cmdr ≠ 1 → t.handle = s.handle) ∧
    (∀ n, t.env.takes = n + 1 → ∃ u : State, step t = .next u ∧ u.seq = .idle ∧ u.res = none ∧ u.outstanding = none ∧
      u.handle = t.handle ∧
      u.trace = t.trace ++ [.respond ⟨(Result.err k).code, (Result.err k).busErr, 0, 0, 0, 0⟩])

/-- R43: nothing changes the parameters while the block runs: no instruction in any state, and no step. -/
def Obligations.ParametersConstant : Prop :=
  (∀ (i : Instr) (s t : State), exec i s = .next t → t.cfg = s.cfg) ∧
  (∀ s t : State, step s = .next t → t.cfg = s.cfg)

/-- R11: no behaviour depends on a value left in a scratch register: two blocks in IDLE that an observer cannot tell
apart stay so for any number of steps, whatever their CMDR, TRIES, ST, PAY and units' outputs hold. -/
def Obligations.DeadRegistersUnobservable : Prop :=
  ∀ (s t : State) (n : Nat), s.seq = .idle → s.observe = t.observe →
    observeOutcome (stepN n s) = observeOutcome (stepN n t)

/-! ### The invariant -/

/-- The control invariant holds after block reset. -/
def Obligations.InvariantAtReset : Prop :=
  ControlInv State.reset ∧ ∀ (p : Parameters) (e : Env), (∀ a ∈ e.bus, a.err.fits p.busErrW) → ControlInv (State.boot p e)

/-- Every step keeps the control invariant (R10 to R18, R112, R154). -/
def Obligations.InvariantKept : Prop := ∀ s t : State, ControlInv s → step s = .next t → ControlInv t

/-- A state that meets the control invariant never stops: every answer of the oracle is admitted (R36) and R112 has a row
for it. -/
def Obligations.InvariantNeverStops : Prop := ∀ s : State, ControlInv s → ∃ t, step s = .next t

/-! ### What a command does, from acceptance to response -/

/-- R189: the bounds on the events of a command, kept by every step: the events caused and the events left never grow
together, and at acceptance the events left are within the bound of the command. -/
def Obligations.EventBudget : Prop :=
  (∀ s t : State, step s = .next t → s.seq ≠ .idle → t.eventCount + eventsLeft t ≤ s.eventCount + eventsLeft s) ∧
  (∀ (s t : State) (w : CmdWord) (rest : List CmdWord), s.seq = .idle → s.outstanding = none →
    s.env.cmds = w :: rest → step s = .next t → t.eventCount = s.eventCount ∧ eventsLeft t ≤ eventBound w)

/-- R189: where the environment has what the block waits for, a running command comes nearer to its end with every
step. -/
def Obligations.AnsweredStepsMakeProgress : Prop :=
  ∀ s t : State, s.seq ≠ .idle → answered s → step s = .next t → workLeft t < workLeft s

/-- R189 (proviso: the spec's own D24): every command ends, provided the transport answers, the delay source answers and
the host takes the response: within 52 steps (a count of the model's steps, two for an event, log 1) the block is in IDLE, has caused at most the command's bound of bus and delay events and exactly one
response, the last event. -/
def Obligations.EveryCommandEnds : Prop :=
  ∀ (s : State) (w : CmdWord) (rest : List CmdWord), ControlInv s → s.seq = .idle → s.env.cmds = w :: rest →
    14 ≤ s.env.bus.length → 11 ≤ s.env.sleeps → 1 ≤ s.env.takes →
    ∃ n t es rsp, n ≤ 52 ∧ stepN n s = .next t ∧ t.seq = .idle ∧ t.env.cmds = rest ∧
      t.trace = s.trace ++ es ++ [.respond rsp] ∧ es.countP Event.counts = es.length ∧ es.length ≤ eventBound w

/-- R90: RESET behind its gate carries out its pseudocode for every script of the oracle that answers it; HANDLE is not
written. -/
def Obligations.ResetCarriedOut : Prop :=
  ∀ (s : State) (rest : List CmdWord) (result : Result),
    s.seq = .idle → s.outstanding = none → s.handle = true → s.env.cmds = 2 :: rest →
    Reference.resultOf (fun _ => .ok) (Reference.resetPart s.cfg s.env.bus).ending = some result →
    Reference.sleepCount (Reference.resetPart s.cfg s.env.bus).events ≤ s.env.sleeps → 1 ≤ s.env.takes →
    Reference.CarriesOut s rest (Reference.resetPart s.cfg s.env.bus) result true

/-- R95, R96, R97 (the spec's own D6): CALIBRATE behind its gate carries out its pseudocode; HANDLE is not written. -/
def Obligations.CalibrateCarriedOut : Prop :=
  ∀ (s : State) (rest : List CmdWord) (result : Result),
    s.seq = .idle → s.outstanding = none → s.handle = true → s.env.cmds = 3 :: rest →
    Reference.resultOf (fun _ => .ok) (Reference.calibratePart s.cfg s.env.bus).ending = some result →
    Reference.sleepCount (Reference.calibratePart s.cfg s.env.bus).events ≤ s.env.sleeps → 1 ≤ s.env.takes →
    Reference.CarriesOut s rest (Reference.calibratePart s.cfg s.env.bus) result true

/-- R70, R71: INIT, with or without a handle, carries out its pseudocode, the events of RESET then those of CALIBRATE
with one response; HANDLE is 1 exactly when both parts succeeded. -/
def Obligations.InitCarriedOut : Prop :=
  ∀ (s : State) (rest : List CmdWord) (result : Result),
    s.seq = .idle → s.outstanding = none → s.env.cmds = 1 :: rest →
    Reference.resultOf (fun _ => .ok) (Reference.initPart s.cfg s.env.bus).ending = some result →
    Reference.sleepCount (Reference.initPart s.cfg s.env.bus).events ≤ s.env.sleeps → 1 ≤ s.env.takes →
    Reference.CarriesOut s rest (Reference.initPart s.cfg s.env.bus) result (decide (result = .ok))

/-- R105, R106, R108, R109, R110 (the spec's own D5, D7): READ behind its gate carries out its pseudocode; HANDLE is not
written, whatever the outcome. -/
def Obligations.ReadCarriedOut : Prop :=
  ∀ (s : State) (rest : List CmdWord) (result : Result),
    s.seq = .idle → s.outstanding = none → s.handle = true → s.env.cmds = 4 :: rest →
    Reference.resultOf .okReading (Reference.readPart s.cfg s.env.bus).ending = some result →
    Reference.sleepCount (Reference.readPart s.cfg s.env.bus).events ≤ s.env.sleeps → 1 ≤ s.env.takes →
    Reference.CarriesOut s rest (Reference.readPart s.cfg s.env.bus) result true

/-- R99, R191: CALIBRATE on a device busy for exactly the first `k` queries. For `k ≤ 10` it causes `2k + 3` events with
`10k` ms of sleep, and its result is the check's; for `k = 11` it causes 22 events with 100 ms and fails Uncalibrated
without a check query. -/
def Obligations.CalibrateEventBudget : Prop :=
  ∀ (s : State) (rest : List CmdWord) (w : BusResponse) (busy : List BusResponse) (more : List BusResponse),
    s.seq = .idle → s.outstanding = none → s.handle = true → s.env.cmds = 3 :: rest →
    11 ≤ s.env.sleeps → 1 ≤ s.env.takes → w.ok = true → (∀ a ∈ busy, isBusyAnswer a) →
    (∀ (i c : BusResponse), busy.length ≤ 10 → isIdleAnswer i → c.ok = true →
      s.env.bus = w :: busy ++ i :: c :: more →
      ∃ (t : State) (es : List Event), Reaches s t ∧ t.seq = .idle ∧ es.length = 2 * busy.length + 3 ∧
        millisOf es = 10 * busy.length ∧ t.env.bus = more ∧
        t.trace = s.trace ++ es ++ [.respond (Response.ofResult
          (if (c.byteAt 0).getLsbD 3 then .ok else .err .uncalibrated))]) ∧
    (busy.length = 11 → s.env.bus = w :: busy ++ more →
      ∃ (t : State) (es : List Event), Reaches s t ∧ t.seq = .idle ∧ es.length = 22 ∧ millisOf es = 100 ∧
        t.env.bus = more ∧ t.trace = s.trace ++ es ++ [.respond (Response.ofResult (.err .uncalibrated))])

/-- R111, R106, R191: READ on a device busy for exactly the first `k` queries. For `k ≤ 5` it causes `2k + 3` events with
`10k` ms of sleep, the last of them the payload read; for `k = 6` it causes 12 events with 50 ms and fails
MaxTriesExceeded without a payload read. -/
def Obligations.ReadEventBudget : Prop :=
  ∀ (s : State) (rest : List CmdWord) (w : BusResponse) (busy : List BusResponse) (more : List BusResponse),
    s.seq = .idle → s.outstanding = none → s.handle = true → s.env.cmds = 4 :: rest →
    11 ≤ s.env.sleeps → 1 ≤ s.env.takes → w.ok = true → (∀ a ∈ busy, isBusyAnswer a) →
    (∀ (i d : BusResponse), busy.length ≤ 5 → isIdleAnswer i → d.ok = true →
      s.env.bus = w :: busy ++ i :: d :: more →
      ∃ (t : State) (es : List Event) (rsp : Response), Reaches s t ∧ t.seq = .idle ∧
        (es ++ [Event.bus ⟨.writeRead, 0x38, s.cfg.payloadWprefix, 7⟩]).length = 2 * busy.length + 3 ∧
        millisOf es = 10 * busy.length ∧ t.env.bus = more ∧
        t.trace = s.trace ++ es ++ [.bus ⟨.writeRead, 0x38, s.cfg.payloadWprefix, 7⟩] ++ [.respond rsp]) ∧
    (busy.length = 6 → s.env.bus = w :: busy ++ more →
      ∃ (t : State) (es : List Event), Reaches s t ∧ t.seq = .idle ∧ es.length = 12 ∧ millisOf es = 50 ∧
        (∀ e ∈ es, ∀ r, e = .bus r → r.rlen ≠ 7) ∧ t.env.bus = more ∧
        t.trace = s.trace ++ es ++ [.respond (Response.ofResult (.err .maxTriesExceeded))])
end

