-- ==== Sys2Proof/Laws/Crc.lean ====
section
/-! SUPPORT. The algebra of the CRC: one turn of the shift register is linear over exclusive or (R120 corner case d), and
so is a byte's worth of turns; the empty message and one more byte. -/

namespace Sys2Proof.Machine

/-- `CRC_XOROUT` is 0: the accumulator is returned as it is (R120). -/
theorem crc8_eq_foldl (m : List Byte) : crc8 m = m.foldl crcByte crcInit := by simp [crc8, crcXorOut]

@[simp] theorem crc8_nil : crc8 [] = 0xFF := rfl

/-- One more byte at the end. -/
theorem crc8_append_singleton (m : List Byte) (b : Byte) : crc8 (m ++ [b]) = crcByte (crc8 m) b := by
  simp [crc8_eq_foldl]

/-- One turn is linear. -/
theorem crcShift_xor : ∀ a b : Byte, crcShift (a ^^^ b) = crcShift a ^^^ crcShift b := by
  intro a b
  unfold crcShift
  rw [BitVec.getLsbD_xor]
  have hc : ∀ x y z : Byte, x ^^^ y ^^^ z = x ^^^ z ^^^ y := fun x y z => by
    rw [BitVec.xor_assoc, BitVec.xor_comm y z, ← BitVec.xor_assoc]
  cases a.getLsbD 7 <;> cases b.getLsbD 7 <;>
    simp [BitVec.shiftLeft_xor_distrib, hc _ crcPoly, ← BitVec.xor_assoc]

@[simp] theorem crcShift_zero : crcShift 0 = 0 := by decide

/-- Any number of turns is linear. -/
theorem crcShifts_xor (n : Nat) (a b : Byte) : crcShifts n (a ^^^ b) = crcShifts n a ^^^ crcShifts n b := by
  induction n generalizing a b with
  | zero => rfl
  | succ n ih => simp [crcShifts, crcShift_xor, ih]

@[simp] theorem crcShifts_zero (n : Nat) : crcShifts n 0 = 0 := by
  induction n with
  | zero => rfl
  | succ n ih => simp only [crcShifts, crcShift_zero, ih]

/-- A byte equal to the accumulator clears it (the residue). -/
@[simp] theorem crcByte_self (c : Byte) : crcByte c c = 0 := by
  rw [crcByte, BitVec.xor_self]; exact crcShifts_zero 8

end Sys2Proof.Machine
end

