-- ==== Sys2Proof/Laws/State.lean ====
section
/-! SUPPORT. Every named write of the state, field by field, true by definition: what it writes and what it leaves. No
later proof unfolds a record update. -/

namespace Sys2Proof.Machine

section goto
variable (q : SeqState) (s : State)

@[simp] theorem goto_cfg : (goto q s).cfg = s.cfg := rfl
@[simp] theorem goto_seq : (goto q s).seq = q := rfl
@[simp] theorem goto_handle : (goto q s).handle = s.handle := rfl
@[simp] theorem goto_cmdr : (goto q s).cmdr = s.cmdr := rfl
@[simp] theorem goto_tries : (goto q s).tries = s.tries := rfl
@[simp] theorem goto_st : (goto q s).st = s.st := rfl
@[simp] theorem goto_pay : (goto q s).pay = s.pay := rfl
@[simp] theorem goto_outstanding : (goto q s).outstanding = s.outstanding := rfl
@[simp] theorem goto_res : (goto q s).res = s.res := rfl
@[simp] theorem goto_dp : (goto q s).dp = s.dp := rfl
@[simp] theorem goto_env : (goto q s).env = s.env := rfl
@[simp] theorem goto_trace : (goto q s).trace = s.trace := rfl
@[simp] theorem goto_freeCount : (goto q s).freeCount = s.freeCount := rfl
end goto

section latchCommand
variable (w : CmdWord) (s : State)

@[simp] theorem latchCommand_cfg : (latchCommand w s).cfg = s.cfg := rfl
@[simp] theorem latchCommand_seq : (latchCommand w s).seq = s.seq := rfl
@[simp] theorem latchCommand_handle : (latchCommand w s).handle = s.handle := rfl
@[simp] theorem latchCommand_cmdr : (latchCommand w s).cmdr = w := rfl
@[simp] theorem latchCommand_tries : (latchCommand w s).tries = s.tries := rfl
@[simp] theorem latchCommand_st : (latchCommand w s).st = s.st := rfl
@[simp] theorem latchCommand_pay : (latchCommand w s).pay = s.pay := rfl
@[simp] theorem latchCommand_outstanding : (latchCommand w s).outstanding = s.outstanding := rfl
@[simp] theorem latchCommand_res : (latchCommand w s).res = s.res := rfl
@[simp] theorem latchCommand_dp : (latchCommand w s).dp = s.dp := rfl
@[simp] theorem latchCommand_env : (latchCommand w s).env = s.env := rfl
@[simp] theorem latchCommand_trace : (latchCommand w s).trace = s.trace := rfl
@[simp] theorem latchCommand_freeCount : (latchCommand w s).freeCount = s.freeCount := rfl
end latchCommand

section setHandle
variable (b : Bool) (s : State)

@[simp] theorem setHandle_cfg : (setHandle b s).cfg = s.cfg := rfl
@[simp] theorem setHandle_seq : (setHandle b s).seq = s.seq := rfl
@[simp] theorem setHandle_handle : (setHandle b s).handle = b := rfl
@[simp] theorem setHandle_cmdr : (setHandle b s).cmdr = s.cmdr := rfl
@[simp] theorem setHandle_tries : (setHandle b s).tries = s.tries := rfl
@[simp] theorem setHandle_st : (setHandle b s).st = s.st := rfl
@[simp] theorem setHandle_pay : (setHandle b s).pay = s.pay := rfl
@[simp] theorem setHandle_outstanding : (setHandle b s).outstanding = s.outstanding := rfl
@[simp] theorem setHandle_res : (setHandle b s).res = s.res := rfl
@[simp] theorem setHandle_dp : (setHandle b s).dp = s.dp := rfl
@[simp] theorem setHandle_env : (setHandle b s).env = s.env := rfl
@[simp] theorem setHandle_trace : (setHandle b s).trace = s.trace := rfl
@[simp] theorem setHandle_freeCount : (setHandle b s).freeCount = s.freeCount := rfl
end setHandle

section loadTries
variable (n : Tries) (s : State)

@[simp] theorem loadTries_cfg : (loadTries n s).cfg = s.cfg := rfl
@[simp] theorem loadTries_seq : (loadTries n s).seq = s.seq := rfl
@[simp] theorem loadTries_handle : (loadTries n s).handle = s.handle := rfl
@[simp] theorem loadTries_cmdr : (loadTries n s).cmdr = s.cmdr := rfl
@[simp] theorem loadTries_tries : (loadTries n s).tries = n := rfl
@[simp] theorem loadTries_st : (loadTries n s).st = s.st := rfl
@[simp] theorem loadTries_pay : (loadTries n s).pay = s.pay := rfl
@[simp] theorem loadTries_outstanding : (loadTries n s).outstanding = s.outstanding := rfl
@[simp] theorem loadTries_res : (loadTries n s).res = s.res := rfl
@[simp] theorem loadTries_dp : (loadTries n s).dp = s.dp := rfl
@[simp] theorem loadTries_env : (loadTries n s).env = s.env := rfl
@[simp] theorem loadTries_trace : (loadTries n s).trace = s.trace := rfl
@[simp] theorem loadTries_freeCount : (loadTries n s).freeCount = s.freeCount := rfl
end loadTries

section countDown
variable (s : State)

@[simp] theorem countDown_cfg : (countDown s).cfg = s.cfg := rfl
@[simp] theorem countDown_seq : (countDown s).seq = s.seq := rfl
@[simp] theorem countDown_handle : (countDown s).handle = s.handle := rfl
@[simp] theorem countDown_cmdr : (countDown s).cmdr = s.cmdr := rfl
@[simp] theorem countDown_tries : (countDown s).tries = if s.tries = 0 then 0 else s.tries - 1 := rfl
@[simp] theorem countDown_st : (countDown s).st = s.st := rfl
@[simp] theorem countDown_pay : (countDown s).pay = s.pay := rfl
@[simp] theorem countDown_outstanding : (countDown s).outstanding = s.outstanding := rfl
@[simp] theorem countDown_res : (countDown s).res = s.res := rfl
@[simp] theorem countDown_dp : (countDown s).dp = s.dp := rfl
@[simp] theorem countDown_env : (countDown s).env = s.env := rfl
@[simp] theorem countDown_trace : (countDown s).trace = s.trace := rfl
@[simp] theorem countDown_freeCount : (countDown s).freeCount = s.freeCount := rfl
end countDown

section latchStatus
variable (b : Byte) (s : State)

@[simp] theorem latchStatus_cfg : (latchStatus b s).cfg = s.cfg := rfl
@[simp] theorem latchStatus_seq : (latchStatus b s).seq = s.seq := rfl
@[simp] theorem latchStatus_handle : (latchStatus b s).handle = s.handle := rfl
@[simp] theorem latchStatus_cmdr : (latchStatus b s).cmdr = s.cmdr := rfl
@[simp] theorem latchStatus_tries : (latchStatus b s).tries = s.tries := rfl
@[simp] theorem latchStatus_st : (latchStatus b s).st = b := rfl
@[simp] theorem latchStatus_pay : (latchStatus b s).pay = s.pay := rfl
@[simp] theorem latchStatus_outstanding : (latchStatus b s).outstanding = s.outstanding := rfl
@[simp] theorem latchStatus_res : (latchStatus b s).res = s.res := rfl
@[simp] theorem latchStatus_dp : (latchStatus b s).dp = s.dp := rfl
@[simp] theorem latchStatus_env : (latchStatus b s).env = s.env := rfl
@[simp] theorem latchStatus_trace : (latchStatus b s).trace = s.trace := rfl
@[simp] theorem latchStatus_freeCount : (latchStatus b s).freeCount = s.freeCount := rfl
end latchStatus

section latchPayload
variable (p : Payload) (s : State)

@[simp] theorem latchPayload_cfg : (latchPayload p s).cfg = s.cfg := rfl
@[simp] theorem latchPayload_seq : (latchPayload p s).seq = s.seq := rfl
@[simp] theorem latchPayload_handle : (latchPayload p s).handle = s.handle := rfl
@[simp] theorem latchPayload_cmdr : (latchPayload p s).cmdr = s.cmdr := rfl
@[simp] theorem latchPayload_tries : (latchPayload p s).tries = s.tries := rfl
@[simp] theorem latchPayload_st : (latchPayload p s).st = s.st := rfl
@[simp] theorem latchPayload_pay : (latchPayload p s).pay = p := rfl
@[simp] theorem latchPayload_outstanding : (latchPayload p s).outstanding = s.outstanding := rfl
@[simp] theorem latchPayload_res : (latchPayload p s).res = s.res := rfl
@[simp] theorem latchPayload_dp : (latchPayload p s).dp = s.dp := rfl
@[simp] theorem latchPayload_env : (latchPayload p s).env = s.env := rfl
@[simp] theorem latchPayload_trace : (latchPayload p s).trace = s.trace := rfl
@[simp] theorem latchPayload_freeCount : (latchPayload p s).freeCount = s.freeCount := rfl
end latchPayload

section issue
variable (r : Request) (s : State)

@[simp] theorem issue_cfg : (issue r s).cfg = s.cfg := rfl
@[simp] theorem issue_seq : (issue r s).seq = s.seq := rfl
@[simp] theorem issue_handle : (issue r s).handle = s.handle := rfl
@[simp] theorem issue_cmdr : (issue r s).cmdr = s.cmdr := rfl
@[simp] theorem issue_tries : (issue r s).tries = s.tries := rfl
@[simp] theorem issue_st : (issue r s).st = s.st := rfl
@[simp] theorem issue_pay : (issue r s).pay = s.pay := rfl
@[simp] theorem issue_outstanding : (issue r s).outstanding = some r := rfl
@[simp] theorem issue_res : (issue r s).res = s.res := rfl
@[simp] theorem issue_dp : (issue r s).dp = s.dp := rfl
@[simp] theorem issue_env : (issue r s).env = s.env := rfl
@[simp] theorem issue_trace : (issue r s).trace = s.trace ++ [r.event] := rfl
@[simp] theorem issue_freeCount : (issue r s).freeCount = s.freeCount := rfl
end issue

section takeBusAnswer
variable (rest : List BusResponse) (s : State)

@[simp] theorem takeBusAnswer_cfg : (takeBusAnswer rest s).cfg = s.cfg := rfl
@[simp] theorem takeBusAnswer_seq : (takeBusAnswer rest s).seq = s.seq := rfl
@[simp] theorem takeBusAnswer_handle : (takeBusAnswer rest s).handle = s.handle := rfl
@[simp] theorem takeBusAnswer_cmdr : (takeBusAnswer rest s).cmdr = s.cmdr := rfl
@[simp] theorem takeBusAnswer_tries : (takeBusAnswer rest s).tries = s.tries := rfl
@[simp] theorem takeBusAnswer_st : (takeBusAnswer rest s).st = s.st := rfl
@[simp] theorem takeBusAnswer_pay : (takeBusAnswer rest s).pay = s.pay := rfl
@[simp] theorem takeBusAnswer_outstanding : (takeBusAnswer rest s).outstanding = none := rfl
@[simp] theorem takeBusAnswer_res : (takeBusAnswer rest s).res = s.res := rfl
@[simp] theorem takeBusAnswer_dp : (takeBusAnswer rest s).dp = s.dp := rfl
@[simp] theorem takeBusAnswer_env : (takeBusAnswer rest s).env = { s.env with bus := rest } := rfl
@[simp] theorem takeBusAnswer_trace : (takeBusAnswer rest s).trace = s.trace := rfl
@[simp] theorem takeBusAnswer_freeCount : (takeBusAnswer rest s).freeCount = s.freeCount := rfl
end takeBusAnswer

section takeSleepAnswer
variable (n : Nat) (s : State)

@[simp] theorem takeSleepAnswer_cfg : (takeSleepAnswer n s).cfg = s.cfg := rfl
@[simp] theorem takeSleepAnswer_seq : (takeSleepAnswer n s).seq = s.seq := rfl
@[simp] theorem takeSleepAnswer_handle : (takeSleepAnswer n s).handle = s.handle := rfl
@[simp] theorem takeSleepAnswer_cmdr : (takeSleepAnswer n s).cmdr = s.cmdr := rfl
@[simp] theorem takeSleepAnswer_tries : (takeSleepAnswer n s).tries = s.tries := rfl
@[simp] theorem takeSleepAnswer_st : (takeSleepAnswer n s).st = s.st := rfl
@[simp] theorem takeSleepAnswer_pay : (takeSleepAnswer n s).pay = s.pay := rfl
@[simp] theorem takeSleepAnswer_outstanding : (takeSleepAnswer n s).outstanding = none := rfl
@[simp] theorem takeSleepAnswer_res : (takeSleepAnswer n s).res = s.res := rfl
@[simp] theorem takeSleepAnswer_dp : (takeSleepAnswer n s).dp = s.dp := rfl
@[simp] theorem takeSleepAnswer_env : (takeSleepAnswer n s).env = { s.env with sleeps := n } := rfl
@[simp] theorem takeSleepAnswer_trace : (takeSleepAnswer n s).trace = s.trace := rfl
@[simp] theorem takeSleepAnswer_freeCount : (takeSleepAnswer n s).freeCount = s.freeCount := rfl
end takeSleepAnswer

section finish
variable (r : Result) (s : State)

@[simp] theorem finish_cfg : (finish r s).cfg = s.cfg := rfl
@[simp] theorem finish_seq : (finish r s).seq = .respond := rfl
@[simp] theorem finish_handle : (finish r s).handle = s.handle := rfl
@[simp] theorem finish_cmdr : (finish r s).cmdr = s.cmdr := rfl
@[simp] theorem finish_tries : (finish r s).tries = s.tries := rfl
@[simp] theorem finish_st : (finish r s).st = s.st := rfl
@[simp] theorem finish_pay : (finish r s).pay = s.pay := rfl
@[simp] theorem finish_outstanding : (finish r s).outstanding = s.outstanding := rfl
@[simp] theorem finish_res : (finish r s).res = some r := rfl
@[simp] theorem finish_dp : (finish r s).dp = s.dp := rfl
@[simp] theorem finish_env : (finish r s).env = s.env := rfl
@[simp] theorem finish_trace : (finish r s).trace = s.trace := rfl
@[simp] theorem finish_freeCount : (finish r s).freeCount = s.freeCount := rfl
end finish

section failWith
variable (k : ErrKind) (s : State)

@[simp] theorem failWith_cfg : (failWith k s).cfg = s.cfg := rfl
@[simp] theorem failWith_seq : (failWith k s).seq = .respond := rfl
@[simp] theorem failWith_handle : (failWith k s).handle = s.handle := rfl
@[simp] theorem failWith_cmdr : (failWith k s).cmdr = s.cmdr := rfl
@[simp] theorem failWith_tries : (failWith k s).tries = s.tries := rfl
@[simp] theorem failWith_st : (failWith k s).st = s.st := rfl
@[simp] theorem failWith_pay : (failWith k s).pay = s.pay := rfl
@[simp] theorem failWith_outstanding : (failWith k s).outstanding = s.outstanding := rfl
@[simp] theorem failWith_res : (failWith k s).res = some (.err k) := rfl
@[simp] theorem failWith_dp : (failWith k s).dp = s.dp := rfl
@[simp] theorem failWith_env : (failWith k s).env = s.env := rfl
@[simp] theorem failWith_trace : (failWith k s).trace = s.trace := rfl
@[simp] theorem failWith_freeCount : (failWith k s).freeCount = s.freeCount := rfl
end failWith

section deliver
variable (r : Result) (n : Nat) (s : State)

@[simp] theorem deliver_cfg : (deliver r n s).cfg = s.cfg := rfl
@[simp] theorem deliver_seq : (deliver r n s).seq = s.seq := rfl
@[simp] theorem deliver_handle : (deliver r n s).handle = s.handle := rfl
@[simp] theorem deliver_cmdr : (deliver r n s).cmdr = s.cmdr := rfl
@[simp] theorem deliver_tries : (deliver r n s).tries = s.tries := rfl
@[simp] theorem deliver_st : (deliver r n s).st = s.st := rfl
@[simp] theorem deliver_pay : (deliver r n s).pay = s.pay := rfl
@[simp] theorem deliver_outstanding : (deliver r n s).outstanding = s.outstanding := rfl
@[simp] theorem deliver_res : (deliver r n s).res = s.res := rfl
@[simp] theorem deliver_dp : (deliver r n s).dp = s.dp := rfl
@[simp] theorem deliver_env : (deliver r n s).env = { s.env with takes := n } := rfl
@[simp] theorem deliver_trace : (deliver r n s).trace = s.trace ++ [.respond (Response.ofResult r)] := rfl
@[simp] theorem deliver_freeCount : (deliver r n s).freeCount = s.freeCount := rfl
end deliver

section returnToIdle
variable (s : State)

@[simp] theorem returnToIdle_cfg : (returnToIdle s).cfg = s.cfg := rfl
@[simp] theorem returnToIdle_seq : (returnToIdle s).seq = .idle := rfl
@[simp] theorem returnToIdle_handle : (returnToIdle s).handle = s.handle := rfl
@[simp] theorem returnToIdle_cmdr : (returnToIdle s).cmdr = Config.freeCmdr s.freeCount := rfl
@[simp] theorem returnToIdle_tries : (returnToIdle s).tries = BitVec.ofNat 4 (Config.freeTries s.freeCount).val := rfl
@[simp] theorem returnToIdle_st : (returnToIdle s).st = Config.freeSt s.freeCount := rfl
@[simp] theorem returnToIdle_pay : (returnToIdle s).pay = freePayload s.freeCount := rfl
@[simp] theorem returnToIdle_outstanding : (returnToIdle s).outstanding = s.outstanding := rfl
@[simp] theorem returnToIdle_res : (returnToIdle s).res = none := rfl
@[simp] theorem returnToIdle_dp : (returnToIdle s).dp = Datapath.quiet := rfl
@[simp] theorem returnToIdle_env : (returnToIdle s).env = s.env := rfl
@[simp] theorem returnToIdle_trace : (returnToIdle s).trace = s.trace := rfl
@[simp] theorem returnToIdle_freeCount : (returnToIdle s).freeCount = s.freeCount + 1 := rfl
end returnToIdle

section runStatusDecode
variable (src : StatusSource) (s : State)

@[simp] theorem runStatusDecode_cfg : (runStatusDecode src s).cfg = s.cfg := rfl
@[simp] theorem runStatusDecode_seq : (runStatusDecode src s).seq = s.seq := rfl
@[simp] theorem runStatusDecode_handle : (runStatusDecode src s).handle = s.handle := rfl
@[simp] theorem runStatusDecode_cmdr : (runStatusDecode src s).cmdr = s.cmdr := rfl
@[simp] theorem runStatusDecode_tries : (runStatusDecode src s).tries = s.tries := rfl
@[simp] theorem runStatusDecode_st : (runStatusDecode src s).st = s.st := rfl
@[simp] theorem runStatusDecode_pay : (runStatusDecode src s).pay = s.pay := rfl
@[simp] theorem runStatusDecode_outstanding : (runStatusDecode src s).outstanding = s.outstanding := rfl
@[simp] theorem runStatusDecode_res : (runStatusDecode src s).res = s.res := rfl
@[simp] theorem runStatusDecode_dp :
    (runStatusDecode src s).dp = { s.dp with status := decodeStatus (StatusSource.read s src) } := rfl
@[simp] theorem runStatusDecode_env : (runStatusDecode src s).env = s.env := rfl
@[simp] theorem runStatusDecode_trace : (runStatusDecode src s).trace = s.trace := rfl
@[simp] theorem runStatusDecode_freeCount : (runStatusDecode src s).freeCount = s.freeCount := rfl
end runStatusDecode

section runCrc8
variable (s : State)

@[simp] theorem runCrc8_cfg : (runCrc8 s).cfg = s.cfg := rfl
@[simp] theorem runCrc8_seq : (runCrc8 s).seq = s.seq := rfl
@[simp] theorem runCrc8_handle : (runCrc8 s).handle = s.handle := rfl
@[simp] theorem runCrc8_cmdr : (runCrc8 s).cmdr = s.cmdr := rfl
@[simp] theorem runCrc8_tries : (runCrc8 s).tries = s.tries := rfl
@[simp] theorem runCrc8_st : (runCrc8 s).st = s.st := rfl
@[simp] theorem runCrc8_pay : (runCrc8 s).pay = s.pay := rfl
@[simp] theorem runCrc8_outstanding : (runCrc8 s).outstanding = s.outstanding := rfl
@[simp] theorem runCrc8_res : (runCrc8 s).res = s.res := rfl
@[simp] theorem runCrc8_dp : (runCrc8 s).dp = { s.dp with crc := crc8 s.pay.covered } := rfl
@[simp] theorem runCrc8_env : (runCrc8 s).env = s.env := rfl
@[simp] theorem runCrc8_trace : (runCrc8 s).trace = s.trace := rfl
@[simp] theorem runCrc8_freeCount : (runCrc8 s).freeCount = s.freeCount := rfl
end runCrc8

section runUnpackH
variable (s : State)

@[simp] theorem runUnpackH_cfg : (runUnpackH s).cfg = s.cfg := rfl
@[simp] theorem runUnpackH_seq : (runUnpackH s).seq = s.seq := rfl
@[simp] theorem runUnpackH_handle : (runUnpackH s).handle = s.handle := rfl
@[simp] theorem runUnpackH_cmdr : (runUnpackH s).cmdr = s.cmdr := rfl
@[simp] theorem runUnpackH_tries : (runUnpackH s).tries = s.tries := rfl
@[simp] theorem runUnpackH_st : (runUnpackH s).st = s.st := rfl
@[simp] theorem runUnpackH_pay : (runUnpackH s).pay = s.pay := rfl
@[simp] theorem runUnpackH_outstanding : (runUnpackH s).outstanding = s.outstanding := rfl
@[simp] theorem runUnpackH_res : (runUnpackH s).res = s.res := rfl
@[simp] theorem runUnpackH_dp : (runUnpackH s).dp = { s.dp with hRaw := unpackHum s.pay } := rfl
@[simp] theorem runUnpackH_env : (runUnpackH s).env = s.env := rfl
@[simp] theorem runUnpackH_trace : (runUnpackH s).trace = s.trace := rfl
@[simp] theorem runUnpackH_freeCount : (runUnpackH s).freeCount = s.freeCount := rfl
end runUnpackH

section runUnpackT
variable (s : State)

@[simp] theorem runUnpackT_cfg : (runUnpackT s).cfg = s.cfg := rfl
@[simp] theorem runUnpackT_seq : (runUnpackT s).seq = s.seq := rfl
@[simp] theorem runUnpackT_handle : (runUnpackT s).handle = s.handle := rfl
@[simp] theorem runUnpackT_cmdr : (runUnpackT s).cmdr = s.cmdr := rfl
@[simp] theorem runUnpackT_tries : (runUnpackT s).tries = s.tries := rfl
@[simp] theorem runUnpackT_st : (runUnpackT s).st = s.st := rfl
@[simp] theorem runUnpackT_pay : (runUnpackT s).pay = s.pay := rfl
@[simp] theorem runUnpackT_outstanding : (runUnpackT s).outstanding = s.outstanding := rfl
@[simp] theorem runUnpackT_res : (runUnpackT s).res = s.res := rfl
@[simp] theorem runUnpackT_dp : (runUnpackT s).dp = { s.dp with tRaw := unpackTemp s.pay } := rfl
@[simp] theorem runUnpackT_env : (runUnpackT s).env = s.env := rfl
@[simp] theorem runUnpackT_trace : (runUnpackT s).trace = s.trace := rfl
@[simp] theorem runUnpackT_freeCount : (runUnpackT s).freeCount = s.freeCount := rfl
end runUnpackT

section runConvRh
variable (s : State)

@[simp] theorem runConvRh_cfg : (runConvRh s).cfg = s.cfg := rfl
@[simp] theorem runConvRh_seq : (runConvRh s).seq = s.seq := rfl
@[simp] theorem runConvRh_handle : (runConvRh s).handle = s.handle := rfl
@[simp] theorem runConvRh_cmdr : (runConvRh s).cmdr = s.cmdr := rfl
@[simp] theorem runConvRh_tries : (runConvRh s).tries = s.tries := rfl
@[simp] theorem runConvRh_st : (runConvRh s).st = s.st := rfl
@[simp] theorem runConvRh_pay : (runConvRh s).pay = s.pay := rfl
@[simp] theorem runConvRh_outstanding : (runConvRh s).outstanding = s.outstanding := rfl
@[simp] theorem runConvRh_res : (runConvRh s).res = s.res := rfl
@[simp] theorem runConvRh_dp : (runConvRh s).dp = { s.dp with rhFix := convertRh s.dp.hRaw } := rfl
@[simp] theorem runConvRh_env : (runConvRh s).env = s.env := rfl
@[simp] theorem runConvRh_trace : (runConvRh s).trace = s.trace := rfl
@[simp] theorem runConvRh_freeCount : (runConvRh s).freeCount = s.freeCount := rfl
end runConvRh

section runConvT
variable (s : State)

@[simp] theorem runConvT_cfg : (runConvT s).cfg = s.cfg := rfl
@[simp] theorem runConvT_seq : (runConvT s).seq = s.seq := rfl
@[simp] theorem runConvT_handle : (runConvT s).handle = s.handle := rfl
@[simp] theorem runConvT_cmdr : (runConvT s).cmdr = s.cmdr := rfl
@[simp] theorem runConvT_tries : (runConvT s).tries = s.tries := rfl
@[simp] theorem runConvT_st : (runConvT s).st = s.st := rfl
@[simp] theorem runConvT_pay : (runConvT s).pay = s.pay := rfl
@[simp] theorem runConvT_outstanding : (runConvT s).outstanding = s.outstanding := rfl
@[simp] theorem runConvT_res : (runConvT s).res = s.res := rfl
@[simp] theorem runConvT_dp : (runConvT s).dp = { s.dp with tFix := convertTemp s.dp.tRaw } := rfl
@[simp] theorem runConvT_env : (runConvT s).env = s.env := rfl
@[simp] theorem runConvT_trace : (runConvT s).trace = s.trace := rfl
@[simp] theorem runConvT_freeCount : (runConvT s).freeCount = s.freeCount := rfl
end runConvT

/-- Off the host's port the word goes, in IDLE only; nothing else is touched. -/
theorem afterFetch_eq (s : State) (h : s.seq ≠ .idle) : s.afterFetch = s := by
  cases hq : s.seq <;> simp_all [State.afterFetch]

end Sys2Proof.Machine
end

