-- ==== Sys2Proof/Laws/Ops.lean ====
section
/-! SUPPORT. One lemma for each shared operation that says everything it can do, and one for each sequencer state that
says what a step there is. Proofs about steps cite these instead of unfolding the operations. -/

namespace Sys2Proof.Machine

/-! ### Transactions, sleeps, acceptance -/

/-- A transaction that answers a next state has issued its request, waits, or has gone on with an answer. -/
theorem transact_next {r : Request} {k : BusResponse → State → Outcome} {s t : State}
    (h : transact r k s = .next t) :
    (s.outstanding = none ∧ t = issue r s) ∨
    (s.outstanding.isSome = true ∧ s.env.bus = [] ∧ t = s) ∨
    (s.outstanding.isSome = true ∧ ∃ a rest, s.env.bus = a :: rest ∧ k a (takeBusAnswer rest s) = .next t) := by
  unfold transact at h
  cases ho : s.outstanding with
  | none => simp only [ho, Host.Outcome.next.injEq] at h; exact .inl ⟨rfl, h.symm⟩
  | some r' =>
    cases hb : s.env.bus with
    | nil => simp only [ho, hb, Host.Outcome.next.injEq] at h; exact .inr (.inl ⟨rfl, rfl, h.symm⟩)
    | cons a rest => simp only [ho, hb] at h; exact .inr (.inr ⟨rfl, a, rest, rfl, h⟩)

/-- With nothing in flight a transaction issues its request. -/
theorem transact_issues {r : Request} {k : BusResponse → State → Outcome} {s : State} (h : s.outstanding = none) :
    transact r k s = .next (issue r s) := by simp [transact, h]

/-- An unanswered transaction waits. -/
theorem transact_waits {r q : Request} {k : BusResponse → State → Outcome} {s : State}
    (h : s.outstanding = some q) (hb : s.env.bus = []) : transact r k s = .next s := by simp [transact, h, hb]

/-- An answered transaction goes on with the first answer. -/
theorem transact_answered {r q : Request} {k : BusResponse → State → Outcome} {s : State} {a : BusResponse}
    {rest : List BusResponse} (h : s.outstanding = some q) (hb : s.env.bus = a :: rest) :
    transact r k s = k a (takeBusAnswer rest s) := by simp [transact, h, hb]

/-- A sleep that answers a next state has been asked for, waits, or has ended. -/
theorem sleepFor_next {ms : Millis} {k : State → Outcome} {s t : State} (h : sleepFor ms k s = .next t) :
    (s.outstanding = none ∧ t = issue (.delay ms) s) ∨
    (s.outstanding.isSome = true ∧ s.env.sleeps = 0 ∧ t = s) ∨
    (s.outstanding.isSome = true ∧ ∃ n, s.env.sleeps = n + 1 ∧ k (takeSleepAnswer n s) = .next t) := by
  unfold sleepFor at h
  cases ho : s.outstanding with
  | none => simp only [ho, Host.Outcome.next.injEq] at h; exact .inl ⟨rfl, h.symm⟩
  | some r' =>
    cases hb : s.env.sleeps with
    | zero => simp only [ho, hb, Host.Outcome.next.injEq] at h; exact .inr (.inl ⟨rfl, rfl, h.symm⟩)
    | succ n => simp only [ho, hb] at h; exact .inr (.inr ⟨rfl, n, rfl, h⟩)

/-- With nothing in flight a sleep is asked for. -/
theorem sleepFor_issues {ms : Millis} {k : State → Outcome} {s : State} (h : s.outstanding = none) :
    sleepFor ms k s = .next (issue (.delay ms) s) := by simp [sleepFor, h]

/-- An unanswered sleep waits. -/
theorem sleepFor_waits {ms : Millis} {q : Request} {k : State → Outcome} {s : State} (h : s.outstanding = some q)
    (hz : s.env.sleeps = 0) : sleepFor ms k s = .next s := by simp [sleepFor, h, hz]

/-- An answered sleep goes on. -/
theorem sleepFor_answered {ms : Millis} {q : Request} {k : State → Outcome} {s : State} {n : Nat}
    (h : s.outstanding = some q) (hn : s.env.sleeps = n + 1) :
    sleepFor ms k s = k (takeSleepAnswer n s) := by simp [sleepFor, h, hn]

/-- An answer that lets a command go on, or one that fails it with the transport's error. -/
theorem onAnswer_next {a : BusResponse} {k : State → Outcome} {s t : State} (h : onAnswer a k s = .next t) :
    (a.ok = true ∧ k s = .next t) ∨ (a.ok = false ∧ t = failWith (.bus a.err) s) := by
  unfold onAnswer at h
  cases ha : a.ok with
  | true => simp only [ha, if_true] at h; exact .inl ⟨rfl, h⟩
  | false => simp [ha] at h; exact .inr ⟨rfl, h.symm⟩

/-- In IDLE a command is taken. -/
theorem accept_idle {w : CmdWord} {k : State → State} {s : State} (h : s.seq = .idle) :
    accept w k s = .next (k (latchCommand w s)) := by simp [accept, h]

/-- In any other state it is not. -/
theorem accept_busy {w : CmdWord} {k : State → State} {s : State} (h : s.seq ≠ .idle) :
    accept w k s = .next s := by simp [accept, h]

/-- The gate with a handle. -/
theorem gate_open {q : SeqState} {s : State} (h : s.handle = true) : gate q s = goto q s := by simp [gate, h]

/-- The gate without one. -/
theorem gate_closed {q : SeqState} {s : State} (h : s.handle = false) : gate q s = failWith .noHandle s := by
  simp [gate, h]

/-- A guard that holds. -/
theorem inState_here {b : Bool} {k : State → Outcome} {s : State} (h : b = true) : inState b k s = k s := by
  simp [inState, h]

/-- A guard that does not. -/
theorem inState_elsewhere {b : Bool} {k : State → Outcome} {s : State} (h : b = false) : inState b k s = .next s := by
  simp [inState, h]

/-! ### The tests of the status callers, the decode stage, the response -/

/-- The calibration loop's busy test. -/
theorem calPollTest_cases (s : State) :
    (s.dp.status.busy = false ∧ calPollTest s = goto .cCheck s) ∨
    (s.dp.status.busy = true ∧ s.tries = 0 ∧ calPollTest s = failWith .uncalibrated s) ∨
    (s.dp.status.busy = true ∧ s.tries ≠ 0 ∧ calPollTest s = goto .cSleep s) := by
  unfold calPollTest
  cases hb : s.dp.status.busy with
  | false => simp
  | true =>
    by_cases ht : s.tries = 0
    · exact .inr (.inl ⟨rfl, ht, by simp only [if_true, if_pos ht]⟩)
    · exact .inr (.inr ⟨rfl, ht, by simp only [if_true, if_neg ht]⟩)

/-- The measurement loop's busy test. -/
theorem measPollTest_cases (s : State) :
    (s.dp.status.busy = false ∧ measPollTest s = goto .mFetch s) ∨
    (s.dp.status.busy = true ∧ s.tries = 0 ∧ measPollTest s = failWith .maxTriesExceeded s) ∨
    (s.dp.status.busy = true ∧ s.tries ≠ 0 ∧ measPollTest s = goto .mSleep s) := by
  unfold measPollTest
  cases hb : s.dp.status.busy with
  | false => simp
  | true =>
    by_cases ht : s.tries = 0
    · exact .inr (.inl ⟨rfl, ht, by simp only [if_true, if_pos ht]⟩)
    · exact .inr (.inr ⟨rfl, ht, by simp only [if_true, if_neg ht]⟩)

/-- The calibration check. -/
theorem calCheckTest_next {s t : State} (h : calCheckTest s = .next t) :
    (s.dp.status.calEn = true ∧ s.cmdr = 1 ∧ t = finish .ok (setHandle true s)) ∨
    (s.dp.status.calEn = true ∧ s.cmdr = 3 ∧ t = finish .ok s) ∨
    (s.dp.status.calEn = false ∧ t = failWith .uncalibrated s) := by
  unfold calCheckTest at h
  cases hc : s.dp.status.calEn with
  | false => simp [hc] at h; exact .inr (.inr ⟨rfl, h.symm⟩)
  | true =>
    simp only [hc, if_true] at h
    by_cases h1 : s.cmdr = 1
    · simp only [if_pos h1, Host.Outcome.next.injEq] at h; exact .inl ⟨rfl, h1, h.symm⟩
    · by_cases h3 : s.cmdr = 3
      · simp only [if_neg h1, if_pos h3, Host.Outcome.next.injEq] at h; exact .inr (.inl ⟨rfl, h3, h.symm⟩)
      · simp only [if_neg h1, if_neg h3, reduceCtorEq] at h

/-- What a step after the reset's sleep can do. -/
theorem resetSlept_next {s t : State} (h : resetSlept s = .next t) :
    (s.cmdr = 1 ∧ t = goto .cWrite s) ∨ (s.cmdr = 2 ∧ t = finish .ok s) := by
  unfold resetSlept at h
  by_cases h1 : s.cmdr = 1
  · simp only [if_pos h1, Host.Outcome.next.injEq] at h; exact .inl ⟨h1, h.symm⟩
  · by_cases h2 : s.cmdr = 2
    · simp only [if_neg h1, if_pos h2, Host.Outcome.next.injEq] at h; exact .inr ⟨h2, h.symm⟩
    · simp only [if_neg h1, if_neg h2, reduceCtorEq] at h

/-- The three ways the decode stage ends, in their priority. -/
theorem decodeStage_cases (s : State) :
    (crc8 s.pay.covered ≠ s.pay.b6 ∧ decodeStage s = failWith .checksum (runCrc8 s)) ∨
    (crc8 s.pay.covered = s.pay.b6 ∧ s.pay.b0.getLsbD 3 = false ∧
      decodeStage s = failWith .uncalibrated (runStatusDecode .pay0 (runCrc8 s))) ∨
    (crc8 s.pay.covered = s.pay.b6 ∧ s.pay.b0.getLsbD 3 = true ∧ ∃ u,
      u = runConvT (runConvRh (runUnpackT (runUnpackH (runStatusDecode .pay0 (runCrc8 s))))) ∧
      decodeStage s = finish (.okReading u.dp.reading) u) := by
  unfold decodeStage
  by_cases hc : crc8 s.pay.covered = s.pay.b6
  · have hd : (decodeStatus (StatusSource.read (runCrc8 s) .pay0)).calEn = s.pay.b0.getLsbD 3 := rfl
    cases hb : s.pay.b0.getLsbD 3 with
    | false => exact .inr (.inl ⟨hc, rfl,
      by simp only [runCrc8_dp, runCrc8_pay, runStatusDecode_dp, hc, hd, hb, ne_eq, not_true, if_false, Bool.false_eq_true]⟩)
    | true => exact .inr (.inr ⟨hc, rfl, _, rfl,
      by simp only [runCrc8_dp, runCrc8_pay, runStatusDecode_dp, hc, hd, hb, ne_eq, not_true, if_false, if_true]⟩)
  · exact .inl ⟨hc, by simp [hc]⟩

/-- The response waits for the host, or is delivered. -/
theorem respondStep_next {s t : State} (h : respondStep s = .next t) :
    ∃ r, s.res = some r ∧
      ((s.env.takes = 0 ∧ t = s) ∨ ∃ n, s.env.takes = n + 1 ∧ t = returnToIdle (deliver r n s)) := by
  unfold respondStep at h
  cases hr : s.res with
  | none => simp [hr] at h
  | some r =>
    refine ⟨r, rfl, ?_⟩
    cases hn : s.env.takes with
    | zero => simp only [hr, hn, Host.Outcome.next.injEq] at h; exact .inl ⟨rfl, h.symm⟩
    | succ n => simp only [hr, hn, Host.Outcome.next.injEq] at h; exact .inr ⟨n, rfl, h.symm⟩

/-! ### A step, state by state (R112) -/

theorem step_idle_empty {s : State} (h : s.seq = .idle) (hc : s.env.cmds = []) : step s = .next s := by
  simp [step, State.selected, sequencerStep, h, hc]

theorem step_idle_offered {s : State} {w : CmdWord} {rest : List CmdWord} (h : s.seq = .idle)
    (hc : s.env.cmds = w :: rest) :
    step s = exec (decodeCommand w) { s with env := { s.env with cmds := rest } } := by
  simp [step, State.selected, State.afterFetch, h, hc]

theorem step_rWrite {s : State} (h : s.seq = .rWrite) : step s =
    transact (reqReset s.cfg) (fun a => onAnswer a fun s => .next (goto .rSleep s)) s := by
  simp [step, State.selected, State.afterFetch, exec, execSoftReset, inState, h]

theorem step_rSleep {s : State} (h : s.seq = .rSleep) : step s = sleepFor resetDelayMs resetSlept s := by
  simp [step, State.selected, sequencerStep, h]

theorem step_cWrite {s : State} (h : s.seq = .cWrite) : step s =
    transact (reqCalibrate s.cfg) (fun a => onAnswer a fun s => .next (goto .cPoll (loadTries calTries s))) s := by
  simp [step, State.selected, State.afterFetch, exec, execCalTrigger, inState, h]

theorem step_query {s : State} (h : s.seq.queriesStatus = true) : step s = transact reqStatus statusAnswered s := by
  cases hq : s.seq <;>
    simp_all [step, State.selected, State.afterFetch, exec, execStatusq, inState, SeqState.queriesStatus]

theorem step_cSleep {s : State} (h : s.seq = .cSleep) : step s = sleepFor pollDelayMs (pollSlept .cPoll) s := by
  simp [step, State.selected, sequencerStep, h]

theorem step_mWrite {s : State} (h : s.seq = .mWrite) : step s =
    transact (reqTrigger s.cfg) (fun a => onAnswer a fun s => .next (enterMeasureLoop readTries s)) s := by
  simp [step, State.selected, State.afterFetch, exec, execMeasTrigger, inState, h]

theorem step_mSleep {s : State} (h : s.seq = .mSleep) : step s = sleepFor pollDelayMs (pollSlept .mPoll) s := by
  simp [step, State.selected, sequencerStep, h]

theorem step_mFetch {s : State} (h : s.seq = .mFetch) : step s =
    transact (reqPayload s.cfg) (fun a => onAnswer a fun s => .next (goto .mDecode (latchPayload a.payload s))) s := by
  simp [step, State.selected, State.afterFetch, exec, execPayloadRead, inState, h]

theorem step_mDecode {s : State} (h : s.seq = .mDecode) : step s = .next (decodeStage s) := by
  simp [step, State.selected, sequencerStep, h]

theorem step_respond {s : State} (h : s.seq = .respond) : step s = respondStep s := by
  simp [step, State.selected, sequencerStep, h]

/-- The measurement loop is always entered: READ_TRIES is not zero (R107). -/
@[simp] theorem enterMeasureLoop_readTries (s : State) :
    enterMeasureLoop readTries s = goto .mPoll (loadTries readTries s) := by
  simp [enterMeasureLoop, readTries]

/-- What taking a command does: the eight cases of the dispatch (R77). -/
theorem exec_command_idle {s : State} (h : s.seq = .idle) (w : CmdWord) :
    exec (decodeCommand w) s = .next
      (if w = 1 then goto .rWrite (setHandle false (latchCommand 1 s))
       else if w = 2 then gate .rWrite (latchCommand 2 s)
       else if w = 3 then gate .cWrite (latchCommand 3 s)
       else if w = 4 then gate .mWrite (latchCommand 4 s)
       else if w = 5 then finish .ok (setHandle false (latchCommand 5 s))
       else failWith .badCommand (latchCommand w s)) := by
  have hw : w = 0 ∨ w = 1 ∨ w = 2 ∨ w = 3 ∨ w = 4 ∨ w = 5 ∨ w = 6 ∨ w = 7 := by revert w; decide
  rcases hw with rfl | rfl | rfl | rfl | rfl | rfl | rfl | rfl <;>
    simp [decodeCommand, exec, execReserved0, execInit, execReset, execCalibrate, execRead, execDrop, execReserved6,
      execReserved7, accept, h]

end Sys2Proof.Machine
end

