-- ==== Sys2Proof/Laws/PerInstr.lean ====
section
/-! SUPPORT. The statements made instruction by instruction: the round trip of the encoding. -/

namespace Sys2Proof.Laws

/-- Decoding the code of a well-formed instruction gives it back, for every value of the open parameters. -/
def EncodingRoundTrip.Statement (i : Instr) : Prop :=
  ∀ (p : Parameters) (c : Code), i.wellFormed p = true → encode p i = some c → decode p c = .ok i

/-- A host command word (R50, R51). -/
theorem roundTrip_of_command (i : Instr) (w : CmdWord) (hw : commandWord i = some w) (hd : decodeCommand w = i) :
    EncodingRoundTrip.Statement i := by
  intro p c _ he
  simp only [encode, hw, Option.some.injEq] at he
  subst he
  simp [decode, hd]

/-- An internal operation has no code (R61). -/
theorem roundTrip_of_internal (i : Instr) (hw : commandWord i = none) (hf : ∀ p, frameString p i = none) :
    EncodingRoundTrip.Statement i := by
  intro p c _ he
  simp [encode, hw, hf] at he

/-- Two byte strings with the same bytes are the same. -/
theorem bytes_injective : ∀ a b : BusString, a.bytes = b.bytes → a = b := by
  intro a b h
  cases a <;> cases b <;> simp_all [BusString.bytes]

/-- A bus frame, which no other frame has the bytes of (R54). -/
theorem roundTrip_of_frame (i : Instr) (hi : i ∈ frameInstrs) (hw : commandWord i = none) :
    EncodingRoundTrip.Statement i := by
  intro p c hwf he
  have hinj := bytes_injective
  simp only [frameInstrs, List.mem_cons, List.not_mem_nil, or_false] at hi
  simp only [Instr.wellFormed, Instr.frameUnambiguous, Bool.and_eq_true] at hwf
  have hu := hwf.2
  rcases hi with rfl | rfl | rfl | rfl | rfl <;>
    simp only [encode, hw, frameString, Option.map_some, Option.some.injEq] at he <;>
    subst he <;>
    simp only [decode, decodeFrame, frameString, frameInstrs, List.all_cons, List.all_nil, Bool.and_true,
      Bool.and_eq_true, decide_eq_true_eq, reduceCtorEq, false_or, true_or, true_and, and_true, ne_eq,
      Option.some.injEq] at hu ⊢
  · simp [BusString.bytes]
  · have h1 : p.cmdReset.bytes ≠ [Machine.cmdStatus] := fun h => hu.1 (hinj _ _ (h.trans rfl)).symm
    simp [h1]
  · obtain ⟨a, b, -, -⟩ := hu
    have h1 : p.cmdCalibrate.string.bytes ≠ [Machine.cmdStatus] := fun h => a (hinj _ _ (h.trans rfl)).symm
    have h2 : p.cmdCalibrate.string.bytes ≠ p.cmdReset.bytes := fun h => b (hinj _ _ h).symm
    simp [h1, h2]
  · obtain ⟨a, b, c, -⟩ := hu
    have h1 : p.cmdTrigger.string.bytes ≠ [Machine.cmdStatus] := fun h => a (hinj _ _ (h.trans rfl)).symm
    have h2 : p.cmdTrigger.string.bytes ≠ p.cmdReset.bytes := fun h => b (hinj _ _ h).symm
    have h3 : p.cmdTrigger.string.bytes ≠ p.cmdCalibrate.string.bytes := fun h => c (hinj _ _ h).symm
    simp [h1, h2, h3]
  · obtain ⟨a, b, c, d⟩ := hu
    have h1 : p.payloadWprefix.bytes ≠ [Machine.cmdStatus] := fun h => a (hinj _ _ (h.trans rfl)).symm
    have h2 : p.payloadWprefix.bytes ≠ p.cmdReset.bytes := fun h => b (hinj _ _ h).symm
    have h3 : p.payloadWprefix.bytes ≠ p.cmdCalibrate.string.bytes := fun h => c (hinj _ _ h).symm
    have h4 : p.payloadWprefix.bytes ≠ p.cmdTrigger.string.bytes := fun h => d (hinj _ _ h).symm
    simp [h1, h2, h3, h4]

namespace EncodingRoundTrip

theorem reserved0 : Statement .reserved0 := roundTrip_of_command _ 0 rfl rfl
theorem init : Statement .init := roundTrip_of_command _ 1 rfl rfl
theorem reset : Statement .reset := roundTrip_of_command _ 2 rfl rfl
theorem calibrate : Statement .calibrate := roundTrip_of_command _ 3 rfl rfl
theorem read : Statement .read := roundTrip_of_command _ 4 rfl rfl
theorem drop : Statement .drop := roundTrip_of_command _ 5 rfl rfl
theorem reserved6 : Statement .reserved6 := roundTrip_of_command _ 6 rfl rfl
theorem reserved7 : Statement .reserved7 := roundTrip_of_command _ 7 rfl rfl
theorem status : Statement .status := roundTrip_of_frame _ (by decide) rfl
theorem softReset : Statement .softReset := roundTrip_of_frame _ (by decide) rfl
theorem calTrigger : Statement .calTrigger := roundTrip_of_frame _ (by decide) rfl
theorem measTrigger : Statement .measTrigger := roundTrip_of_frame _ (by decide) rfl
theorem payloadRead : Statement .payloadRead := roundTrip_of_frame _ (by decide) rfl
theorem statusq : Statement .statusq := roundTrip_of_internal _ rfl fun _ => rfl
theorem statusDecode (src : StatusSource) : Statement (.statusDecode src) := roundTrip_of_internal _ rfl fun _ => rfl
theorem crc8 : Statement .crc8 := roundTrip_of_internal _ rfl fun _ => rfl
theorem unpackH : Statement .unpackH := roundTrip_of_internal _ rfl fun _ => rfl
theorem unpackT : Statement .unpackT := roundTrip_of_internal _ rfl fun _ => rfl
theorem convRh : Statement .convRh := roundTrip_of_internal _ rfl fun _ => rfl
theorem convT : Statement .convT := roundTrip_of_internal _ rfl fun _ => rfl

end EncodingRoundTrip

end Sys2Proof.Laws
end

