-- ==== Sys2Proof/Laws/Step.lean ====
section
/-! SUPPORT. What a step can do, said once: the transition table of R112 as a relation, with every guard, and the lemma
that a step which answers a next state is one of its rows. Invariants and frames of the machine follow by cases on it. -/

namespace Sys2Proof.Machine

/-- The state in which the caller tests the byte of an answered status query: ST latched and decoded (R80, R83). -/
def afterQuery (a : BusResponse) (rest : List BusResponse) (s : State) : State :=
  runStatusDecode .st (latchStatus (a.byteAt 0) (takeBusAnswer rest s))

/-- The state in which the decode stage has its reading (R105 steps 4 to 7). -/
def decoded (s : State) : State :=
  runConvT (runConvRh (runUnpackT (runUnpackH (runStatusDecode .pay0 (runCrc8 s)))))

/-- The state after the dispatch of the command word `w` (R77). -/
def dispatched (w : CmdWord) (u : State) : State :=
  if w = 1 then goto .rWrite (setHandle false (latchCommand 1 u))
  else if w = 2 then gate .rWrite (latchCommand 2 u)
  else if w = 3 then gate .cWrite (latchCommand 3 u)
  else if w = 4 then gate .mWrite (latchCommand 4 u)
  else if w = 5 then finish .ok (setHandle false (latchCommand 5 u))
  else failWith .badCommand (latchCommand w u)

/-- A request is in flight and the transport's next answer is `a`. -/
def BusAnswered (s : State) (a : BusResponse) (rest : List BusResponse) : Prop :=
  s.outstanding.isSome = true ∧ s.env.bus = a :: rest

/-- A request is in flight and the delay source answers, `n` answers being left. -/
def SleepAnswered (s : State) (n : Nat) : Prop := s.outstanding.isSome = true ∧ s.env.sleeps = n + 1

/-- The rows of R112, the issue half of every event, and the waits. -/
inductive StepRow : State → State → Prop where
  | idleWaits (s) : s.seq = .idle → s.env.cmds = [] → StepRow s s
  | taken (s w rest) : s.seq = .idle → s.env.cmds = w :: rest →
      StepRow s (dispatched w { s with env := { s.env with cmds := rest } })
  | issued (s r) : s.outstanding = none → s.seq.request s.cfg = some r → StepRow s (issue r s)
  | busWaits (s r) : s.outstanding.isSome = true → s.seq.request s.cfg = some (.bus r) → s.env.bus = [] → StepRow s s
  | sleepWaits (s ms) : s.outstanding.isSome = true → s.seq.request s.cfg = some (.delay ms) → s.env.sleeps = 0 →
      StepRow s s
  | busFailed (s a rest r) : s.seq.request s.cfg = some (.bus r) → BusAnswered s a rest → a.ok = false →
      StepRow s (failWith (.bus a.err) (takeBusAnswer rest s))
  | resetWritten (s a rest) : s.seq = .rWrite → BusAnswered s a rest → a.ok = true →
      StepRow s (goto .rSleep (takeBusAnswer rest s))
  | calibrateWritten (s a rest) : s.seq = .cWrite → BusAnswered s a rest → a.ok = true →
      StepRow s (goto .cPoll (loadTries calTries (takeBusAnswer rest s)))
  | triggerWritten (s a rest) : s.seq = .mWrite → BusAnswered s a rest → a.ok = true →
      StepRow s (goto .mPoll (loadTries readTries (takeBusAnswer rest s)))
  | payloadFetched (s a rest) : s.seq = .mFetch → BusAnswered s a rest → a.ok = true →
      StepRow s (goto .mDecode (latchPayload a.payload (takeBusAnswer rest s)))
  | calPollIdle (s a rest) : s.seq = .cPoll → BusAnswered s a rest → a.ok = true → (a.byteAt 0).getLsbD 7 = false →
      StepRow s (goto .cCheck (afterQuery a rest s))
  | calPollBusy (s a rest) : s.seq = .cPoll → BusAnswered s a rest → a.ok = true → (a.byteAt 0).getLsbD 7 = true →
      s.tries ≠ 0 → StepRow s (goto .cSleep (afterQuery a rest s))
  | calPollGivenUp (s a rest) : s.seq = .cPoll → BusAnswered s a rest → a.ok = true →
      (a.byteAt 0).getLsbD 7 = true → s.tries = 0 → StepRow s (failWith .uncalibrated (afterQuery a rest s))
  | measPollIdle (s a rest) : s.seq = .mPoll → BusAnswered s a rest → a.ok = true → (a.byteAt 0).getLsbD 7 = false →
      StepRow s (goto .mFetch (afterQuery a rest s))
  | measPollBusy (s a rest) : s.seq = .mPoll → BusAnswered s a rest → a.ok = true → (a.byteAt 0).getLsbD 7 = true →
      s.tries ≠ 0 → StepRow s (goto .mSleep (afterQuery a rest s))
  | measPollGivenUp (s a rest) : s.seq = .mPoll → BusAnswered s a rest → a.ok = true →
      (a.byteAt 0).getLsbD 7 = true → s.tries = 0 → StepRow s (failWith .maxTriesExceeded (afterQuery a rest s))
  | initChecked (s a rest) : s.seq = .cCheck → BusAnswered s a rest → a.ok = true → (a.byteAt 0).getLsbD 3 = true →
      s.cmdr = 1 → StepRow s (finish .ok (setHandle true (afterQuery a rest s)))
  | calibrateChecked (s a rest) : s.seq = .cCheck → BusAnswered s a rest → a.ok = true →
      (a.byteAt 0).getLsbD 3 = true → s.cmdr = 3 → StepRow s (finish .ok (afterQuery a rest s))
  | checkFailed (s a rest) : s.seq = .cCheck → BusAnswered s a rest → a.ok = true → (a.byteAt 0).getLsbD 3 = false →
      StepRow s (failWith .uncalibrated (afterQuery a rest s))
  | initSlept (s n) : s.seq = .rSleep → SleepAnswered s n → s.cmdr = 1 → StepRow s (goto .cWrite (takeSleepAnswer n s))
  | resetSlept (s n) : s.seq = .rSleep → SleepAnswered s n → s.cmdr = 2 → StepRow s (finish .ok (takeSleepAnswer n s))
  | calSlept (s n) : s.seq = .cSleep → SleepAnswered s n → StepRow s (goto .cPoll (countDown (takeSleepAnswer n s)))
  | measSlept (s n) : s.seq = .mSleep → SleepAnswered s n → StepRow s (goto .mPoll (countDown (takeSleepAnswer n s)))
  | checksumWrong (s) : s.seq = .mDecode → crc8 s.pay.covered ≠ s.pay.b6 → StepRow s (failWith .checksum (runCrc8 s))
  | flagClear (s) : s.seq = .mDecode → crc8 s.pay.covered = s.pay.b6 → s.pay.b0.getLsbD 3 = false →
      StepRow s (failWith .uncalibrated (runStatusDecode .pay0 (runCrc8 s)))
  | readingDone (s) : s.seq = .mDecode → crc8 s.pay.covered = s.pay.b6 → s.pay.b0.getLsbD 3 = true →
      StepRow s (finish (.okReading (decoded s).dp.reading) (decoded s))
  | responseWaits (s r) : s.seq = .respond → s.res = some r → s.env.takes = 0 → StepRow s s
  | responded (s r n) : s.seq = .respond → s.res = some r → s.env.takes = n + 1 →
      StepRow s (returnToIdle (deliver r n s))

/-- An answered status query: a failure, or the caller's test of the latched byte. -/
theorem statusAnswered_next {a : BusResponse} {rest : List BusResponse} {s t : State}
    (hs : s.seq = .cPoll ∨ s.seq = .cCheck ∨ s.seq = .mPoll)
    (h : statusAnswered a (takeBusAnswer rest s) = .next t) :
    (a.ok = false ∧ t = failWith (.bus a.err) (takeBusAnswer rest s)) ∨
    (a.ok = true ∧
      ((s.seq = .cPoll ∧ t = calPollTest (afterQuery a rest s)) ∨
       (s.seq = .mPoll ∧ t = measPollTest (afterQuery a rest s)) ∨
       (s.seq = .cCheck ∧ calCheckTest (afterQuery a rest s) = .next t))) := by
  rcases onAnswer_next h with ⟨ha, hk⟩ | ⟨ha, hk⟩
  · refine .inr ⟨ha, ?_⟩
    have hq : (afterQuery a rest s).seq = s.seq := rfl
    change callerTest (afterQuery a rest s) = .next t at hk
    rcases hs with hs | hs | hs <;> simp [callerTest, hq, hs] at hk <;> simp [hs, hk]
  · exact .inl ⟨ha, hk⟩

/-- A step that answers a next state is a row of the table. -/
theorem step_row {s t : State} (h : step s = .next t) : StepRow s t := by
  cases hq : s.seq with
  | idle =>
    cases hc : s.env.cmds with
    | nil => rw [step_idle_empty hq hc] at h; cases h; exact .idleWaits _ hq hc
    | cons w rest =>
      rw [step_idle_offered hq hc, exec_command_idle (by exact hq)] at h
      cases h; exact .taken s w rest hq hc
  | rWrite =>
    rw [step_rWrite hq] at h
    rcases transact_next h with ⟨ho, rfl⟩ | ⟨ho, hb, rfl⟩ | ⟨ho, a, rest, hb, hk⟩
    · exact .issued _ _ ho (by rw [hq]; rfl)
    · exact .busWaits _ _ ho (by rw [hq]; rfl) hb
    · rcases onAnswer_next hk with ⟨ha, hk⟩ | ⟨ha, rfl⟩
      · cases hk; exact .resetWritten _ _ _ hq ⟨ho, hb⟩ ha
      · exact .busFailed _ _ _ _ (by rw [hq]; rfl) ⟨ho, hb⟩ ha
  | cWrite =>
    rw [step_cWrite hq] at h
    rcases transact_next h with ⟨ho, rfl⟩ | ⟨ho, hb, rfl⟩ | ⟨ho, a, rest, hb, hk⟩
    · exact .issued _ _ ho (by rw [hq]; rfl)
    · exact .busWaits _ _ ho (by rw [hq]; rfl) hb
    · rcases onAnswer_next hk with ⟨ha, hk⟩ | ⟨ha, rfl⟩
      · cases hk; exact .calibrateWritten _ _ _ hq ⟨ho, hb⟩ ha
      · exact .busFailed _ _ _ _ (by rw [hq]; rfl) ⟨ho, hb⟩ ha
  | mWrite =>
    rw [step_mWrite hq] at h
    rcases transact_next h with ⟨ho, rfl⟩ | ⟨ho, hb, rfl⟩ | ⟨ho, a, rest, hb, hk⟩
    · exact .issued _ _ ho (by rw [hq]; rfl)
    · exact .busWaits _ _ ho (by rw [hq]; rfl) hb
    · rcases onAnswer_next hk with ⟨ha, hk⟩ | ⟨ha, rfl⟩
      · rw [enterMeasureLoop_readTries] at hk
        cases hk; exact .triggerWritten _ _ _ hq ⟨ho, hb⟩ ha
      · exact .busFailed _ _ _ _ (by rw [hq]; rfl) ⟨ho, hb⟩ ha
  | mFetch =>
    rw [step_mFetch hq] at h
    rcases transact_next h with ⟨ho, rfl⟩ | ⟨ho, hb, rfl⟩ | ⟨ho, a, rest, hb, hk⟩
    · exact .issued _ _ ho (by rw [hq]; rfl)
    · exact .busWaits _ _ ho (by rw [hq]; rfl) hb
    · rcases onAnswer_next hk with ⟨ha, hk⟩ | ⟨ha, rfl⟩
      · cases hk; exact .payloadFetched _ _ _ hq ⟨ho, hb⟩ ha
      · exact .busFailed _ _ _ _ (by rw [hq]; rfl) ⟨ho, hb⟩ ha
  | cPoll =>
    rw [step_query (by rw [hq]; rfl)] at h
    rcases transact_next h with ⟨ho, rfl⟩ | ⟨ho, hb, rfl⟩ | ⟨ho, a, rest, hb, hk⟩
    · exact .issued _ _ ho (by rw [hq]; rfl)
    · exact .busWaits _ _ ho (by rw [hq]; rfl) hb
    · rcases statusAnswered_next (.inl hq) hk with ⟨ha, rfl⟩ | ⟨ha, hk⟩
      · exact .busFailed _ _ _ _ (by rw [hq]; rfl) ⟨ho, hb⟩ ha
      · simp only [hq, true_and, reduceCtorEq, false_and, or_false] at hk
        subst hk
        rcases calPollTest_cases (afterQuery a rest s) with ⟨h1, h2⟩ | ⟨h1, h3, h2⟩ | ⟨h1, h3, h2⟩ <;> rw [h2]
        · exact .calPollIdle _ _ _ hq ⟨ho, hb⟩ ha h1
        · exact .calPollGivenUp _ _ _ hq ⟨ho, hb⟩ ha h1 h3
        · exact .calPollBusy _ _ _ hq ⟨ho, hb⟩ ha h1 h3
  | mPoll =>
    rw [step_query (by rw [hq]; rfl)] at h
    rcases transact_next h with ⟨ho, rfl⟩ | ⟨ho, hb, rfl⟩ | ⟨ho, a, rest, hb, hk⟩
    · exact .issued _ _ ho (by rw [hq]; rfl)
    · exact .busWaits _ _ ho (by rw [hq]; rfl) hb
    · rcases statusAnswered_next (.inr (.inr hq)) hk with ⟨ha, rfl⟩ | ⟨ha, hk⟩
      · exact .busFailed _ _ _ _ (by rw [hq]; rfl) ⟨ho, hb⟩ ha
      · simp only [hq, true_and, reduceCtorEq, false_and, or_false, false_or] at hk
        subst hk
        rcases measPollTest_cases (afterQuery a rest s) with ⟨h1, h2⟩ | ⟨h1, h3, h2⟩ | ⟨h1, h3, h2⟩ <;> rw [h2]
        · exact .measPollIdle _ _ _ hq ⟨ho, hb⟩ ha h1
        · exact .measPollGivenUp _ _ _ hq ⟨ho, hb⟩ ha h1 h3
        · exact .measPollBusy _ _ _ hq ⟨ho, hb⟩ ha h1 h3
  | cCheck =>
    rw [step_query (by rw [hq]; rfl)] at h
    rcases transact_next h with ⟨ho, rfl⟩ | ⟨ho, hb, rfl⟩ | ⟨ho, a, rest, hb, hk⟩
    · exact .issued _ _ ho (by rw [hq]; rfl)
    · exact .busWaits _ _ ho (by rw [hq]; rfl) hb
    · rcases statusAnswered_next (.inr (.inl hq)) hk with ⟨ha, rfl⟩ | ⟨ha, hk⟩
      · exact .busFailed _ _ _ _ (by rw [hq]; rfl) ⟨ho, hb⟩ ha
      · simp only [hq, true_and, reduceCtorEq, false_and, false_or] at hk
        rcases calCheckTest_next hk with ⟨h1, h2, rfl⟩ | ⟨h1, h2, rfl⟩ | ⟨h1, rfl⟩
        · exact .initChecked _ _ _ hq ⟨ho, hb⟩ ha h1 h2
        · exact .calibrateChecked _ _ _ hq ⟨ho, hb⟩ ha h1 h2
        · exact .checkFailed _ _ _ hq ⟨ho, hb⟩ ha h1
  | rSleep =>
    rw [step_rSleep hq] at h
    rcases sleepFor_next h with ⟨ho, rfl⟩ | ⟨ho, hz, rfl⟩ | ⟨ho, n, hn, hk⟩
    · exact .issued _ _ ho (by rw [hq]; rfl)
    · exact .sleepWaits _ _ ho (by rw [hq]; rfl) hz
    · rcases resetSlept_next hk with ⟨h1, rfl⟩ | ⟨h1, rfl⟩
      · exact .initSlept _ _ hq ⟨ho, hn⟩ h1
      · exact .resetSlept _ _ hq ⟨ho, hn⟩ h1
  | cSleep =>
    rw [step_cSleep hq] at h
    rcases sleepFor_next h with ⟨ho, rfl⟩ | ⟨ho, hz, rfl⟩ | ⟨ho, n, hn, hk⟩
    · exact .issued _ _ ho (by rw [hq]; rfl)
    · exact .sleepWaits _ _ ho (by rw [hq]; rfl) hz
    · cases hk; exact .calSlept _ _ hq ⟨ho, hn⟩
  | mSleep =>
    rw [step_mSleep hq] at h
    rcases sleepFor_next h with ⟨ho, rfl⟩ | ⟨ho, hz, rfl⟩ | ⟨ho, n, hn, hk⟩
    · exact .issued _ _ ho (by rw [hq]; rfl)
    · exact .sleepWaits _ _ ho (by rw [hq]; rfl) hz
    · cases hk; exact .measSlept _ _ hq ⟨ho, hn⟩
  | mDecode =>
    rw [step_mDecode hq] at h
    cases h
    rcases decodeStage_cases s with ⟨h1, h2⟩ | ⟨h1, h3, h2⟩ | ⟨h1, h3, u, hu, h2⟩ <;> rw [h2]
    · exact .checksumWrong _ hq h1
    · exact .flagClear _ hq h1 h3
    · subst hu; exact .readingDone _ hq h1 h3
  | respond =>
    rw [step_respond hq] at h
    obtain ⟨r, hr, ⟨h0, rfl⟩ | ⟨n, hn, rfl⟩⟩ := respondStep_next h
    · exact .responseWaits _ _ hq hr h0
    · exact .responded _ _ _ hq hr hn

end Sys2Proof.Machine
end

