-- ==== Sys2Proof/Tests/Slice0.lean ====
section
/-! SUPPORT. Tests on fixed values (expected results from the spec's tables, named in each docstring) and one witness for
every statement with hypotheses: concrete states and operands that meet them, clause by clause. -/

namespace Sys2Proof.Tests

open Sys2Proof.Machine

/-! ### Small states -/

/-- A block in state `q` of command `w` with HANDLE = 1, `n` in TRIES, the request `r` in flight and the inputs `e`. -/
def block (q : SeqState) (w : CmdWord) (n : Tries) (r : Option Request) (e : Env) : State :=
  { State.boot suggestedParameters e with seq := q, handle := true, cmdr := w, tries := n, outstanding := r }

/-- The transport answers `ok` with one status byte. -/
def byteAnswer (x : Byte) : BusResponse := ⟨true, ⟨0⟩, x.setWidth 56⟩

/-- The transport answers `err(e)`. -/
def errAnswer (e : Nat) : BusResponse := ⟨false, ⟨e⟩, 0⟩

/-- A list of answers to bus requests, one sleep answered, one response taken. -/
def answers (l : List BusResponse) : Env := ⟨[], l, 1, 1⟩

/-- The command `w` offered to a block in IDLE, with HANDLE `h`. -/
def offered (h : Bool) (w : CmdWord) : State :=
  { State.boot suggestedParameters ⟨[w], [], 0, 1⟩ with handle := h }

/-- The decode stage on a payload. -/
def decoding (p : Payload) : State := { block .mDecode 4 5 none Env.silent with pay := p }

/-- The payload of V-D20. -/
def goodPayload : Payload := ⟨0x18, 0x19, 0x99, 0x9A, 0x66, 0x66, 0x57⟩

/-! ### Well-formedness: an ill-formed instruction for each check -/

theorem test_wellFormed_all :
    ([.reserved0, .init, .reset, .calibrate, .read, .drop, .reserved6, .reserved7, .status, .softReset, .calTrigger,
      .measTrigger, .payloadRead, .statusq, .statusDecode .st, .statusDecode .pay0, .crc8, .unpackH, .unpackT, .convRh,
      .convT] : List Instr).all (Instr.wellFormed suggestedParameters) = true := by decide

/-- An empty reset command has no first byte. -/
theorem test_hasFirstByte_refuses :
    Instr.hasFirstByte { suggestedParameters with cmdReset := .b0 } .softReset = false ∧
    Instr.wellFormed { suggestedParameters with cmdReset := .b0 } .softReset = false := by decide

/-- A trigger with the bytes of the calibration command stands for neither. -/
theorem test_frameUnambiguous_refuses :
    Instr.frameUnambiguous { suggestedParameters with cmdTrigger := ⟨0xBE, 0x08, 0x00⟩ } .measTrigger = false ∧
    Instr.wellFormed { suggestedParameters with cmdTrigger := ⟨0xBE, 0x08, 0x00⟩ } .calTrigger = false := by decide

/-! ### Decoding: every word written out from the spec -/

/-- The binary column of R50. -/
theorem test_decode_commands :
    [0b000#3, 0b001#3, 0b010#3, 0b011#3, 0b100#3, 0b101#3, 0b110#3, 0b111#3].map decodeCommand =
      [.reserved0, .init, .reset, .calibrate, .read, .drop, .reserved6, .reserved7] := by decide

/-- The bytes column of R54. -/
theorem test_decode_frames :
    decode suggestedParameters (.frame [0b01110001]) = .ok .status ∧
    decode suggestedParameters (.frame [0xBA]) = .ok .softReset ∧
    decode suggestedParameters (.frame [0xBE, 0x08, 0x00]) = .ok .calTrigger ∧
    decode suggestedParameters (.frame [0xAC, 0x33, 0x00]) = .ok .measTrigger ∧
    decode suggestedParameters (.frame [0x00]) = .ok .payloadRead := ⟨rfl, rfl, rfl, rfl, rfl⟩

/-- R32: no other shape appears on the bus. -/
theorem test_decode_rejects :
    decode suggestedParameters (.frame []) = .error .unknownFrame ∧
    decode suggestedParameters (.frame [0xE1, 0x08, 0x00]) = .error .unknownFrame ∧
    decode suggestedParameters (.frame [0x71, 0x00]) = .error .unknownFrame := ⟨rfl, rfl, rfl⟩

/-- The `match` words of `opcode_table.json`. -/
theorem test_table_words :
    (List.range 8).map (decodeTableWord 8) =
      [some .reserved0, some .init, some .reset, some .calibrate, some .read, some .drop, some .reserved6,
        some .reserved7] ∧
    decodeTableWord 8 0x71 = some .status ∧ decodeTableWord 8 0xBA = some .softReset ∧
    decodeTableWord 24 0xBE0800 = some .calTrigger ∧ decodeTableWord 24 0xAC3300 = some .measTrigger ∧
    decodeTableWord 0 0 = none := by decide

/-- The encoding lines of P1 and P4 in `95_test_vectors.md`. -/
theorem test_assemble :
    assemble ["INIT", "READ"] = some [0b001, 0b100] ∧
    assemble ["INIT", "READ", "READ", "RESET", "CALIBRATE", "READ", "DROP", "READ"] =
      some [0b001, 0b100, 0b100, 0b010, 0b011, 0b100, 0b101, 0b100] ∧
    assemble ["read"] = none := by decide

/-- The next step runs the placed word, also from `State.reset`. -/
theorem test_withFetchWord :
    step (State.reset.withFetchWord 8 1) = exec .init State.reset ∧
    step (State.reset.withFetchWord 8 0x71) = exec .statusq { State.reset with seq := .cPoll } := ⟨rfl, rfl⟩

/-! ### Pure units: the tables of `95_test_vectors.md` -/

/-- V-D9, V-D10. -/
theorem test_statusDecode :
    decodeStatus 0x77 = ⟨false, 3, true, false, true, true, true⟩ ∧
    decodeStatus 0x98 = ⟨true, 0, true, true, false, false, false⟩ := by decide

/-- V-D12, V-D16, V-D17, V-D18: six zero bytes give 0x6A. -/
theorem test_crc8 :
    crc8 [0x00] = 0xAC ∧ crc8 [0xBE, 0xEF] = 0x92 ∧ crc8 [0, 0, 0, 0, 0, 0] = 0x6A ∧
    crc8 [0x31, 0x32, 0x33, 0x34, 0x35, 0x36, 0x37, 0x38, 0x39] = 0xF7 := by decide +kernel

/-- V-D43, V-D45: the nibbles of `PAY[3]`. -/
theorem test_unpackH :
    unpackHum ⟨0, 0, 0, 0x0F, 0, 0, 0⟩ = 0 ∧ unpackHum ⟨0, 0xAB, 0xCD, 0xEF, 0x12, 0x34, 0⟩ = 0xABCDE := by decide

/-- V-D43, V-D45. -/
theorem test_unpackT :
    unpackTemp ⟨0, 0, 0, 0x0F, 0, 0, 0⟩ = 0xF0000 ∧ unpackTemp ⟨0, 0xAB, 0xCD, 0xEF, 0x12, 0x34, 0⟩ = 0xF1234 := by
  decide

/-- V-D53, V-D57. -/
theorem test_convRh : convertRh 0x19999 = 0x09FFFC4 ∧ convertRh 0xFFFFF = 0x63FFF9C := by decide

/-- V-D63, V-D69: a small negative and a positive value. -/
theorem test_convT : convertTemp 0x3FFFF = 0x1FFFFF38 ∧ convertTemp 0xA6666 = 0x04FFFFB0 := by decide

/-! ### One step of each command and frame -/

/-- R77: INIT drops a live handle first. -/
theorem test_init_step : ∃ t, step (offered true 1) = .next t ∧ t.handle = false ∧ t.seq = .rWrite ∧ t.env.cmds = [] :=
  ⟨_, rfl, rfl, rfl, rfl⟩

/-- V-D82. -/
theorem test_reset_step : ∃ t, step (offered false 2) = .next t ∧ t.res = some (.err .noHandle) := ⟨_, rfl, rfl⟩

/-- R77. -/
theorem test_calibrate_step : ∃ t, step (offered true 3) = .next t ∧ t.seq = .cWrite ∧ t.handle = true :=
  ⟨_, rfl, rfl, rfl⟩

/-- R77. -/
theorem test_read_step : ∃ t, step (offered true 4) = .next t ∧ t.seq = .mWrite ∧ t.cmdr = 4 := ⟨_, rfl, rfl, rfl⟩

/-- V-D102. -/
theorem test_drop_step : ∃ t, step (offered true 5) = .next t ∧ t.res = some .ok ∧ t.handle = false := ⟨_, rfl, rfl, rfl⟩

/-- V-D101. -/
theorem test_reserved_steps :
    (∃ t, step (offered true 0) = .next t ∧ t.res = some (.err .badCommand) ∧ t.handle = true) ∧
    (∃ t, step (offered true 6) = .next t ∧ t.res = some (.err .badCommand) ∧ t.handle = true) ∧
    (∃ t, step (offered true 7) = .next t ∧ t.res = some (.err .badCommand) ∧ t.handle = true) :=
  ⟨⟨_, rfl, rfl, rfl⟩, ⟨_, rfl, rfl, rfl⟩, ⟨_, rfl, rfl, rfl⟩⟩

/-- V-D81: a failed reset write is followed by no sleep. -/
theorem test_softReset_step :
    ∃ t, step (block .rWrite 2 0 (some (reqReset suggestedParameters)) (answers [errAnswer 9])) = .next t ∧
      t.res = some (.err (.bus ⟨9⟩)) ∧ t.seq = .respond := ⟨_, rfl, rfl, rfl⟩

/-- R95: the budget is 10. -/
theorem test_calTrigger_step :
    ∃ t, step (block .cWrite 3 0 (some (reqCalibrate suggestedParameters)) (answers [byteAnswer 0])) = .next t ∧
      t.tries = 10 ∧ t.seq = .cPoll := ⟨_, rfl, rfl, rfl⟩

/-- R105: the budget is 5. -/
theorem test_measTrigger_step :
    ∃ t, step (block .mWrite 4 0 (some (reqTrigger suggestedParameters)) (answers [byteAnswer 0])) = .next t ∧
      t.tries = 5 ∧ t.seq = .mPoll := ⟨_, rfl, rfl, rfl⟩

/-- R58, P1 event e8: index 0 is received first. -/
theorem test_payloadRead_step :
    ∃ t, step (block .mFetch 4 5 (some (reqPayload suggestedParameters))
        (answers [⟨true, ⟨0⟩, 0x576666_9A9919_18⟩])) = .next t ∧
      t.pay = goodPayload ∧ t.seq = .mDecode := ⟨_, rfl, rfl, rfl⟩

/-- R32 row T4. -/
theorem test_status_step :
    ∃ t, exec .status (block .mPoll 4 5 none Env.silent) = .next t ∧
      t.trace = [.bus ⟨.writeRead, 0x38, .b1 0x71, 1⟩] := ⟨_, rfl, rfl⟩

/-- V-D86 and V-D94 at the last query: busy with a budget of 0. -/
theorem test_statusq_exhausted :
    (∃ t, step (block .cPoll 3 0 (some reqStatus) (answers [byteAnswer 0x80])) = .next t ∧
      t.res = some (.err .uncalibrated)) ∧
    (∃ t, step (block .mPoll 4 0 (some reqStatus) (answers [byteAnswer 0x80])) = .next t ∧
      t.res = some (.err .maxTriesExceeded)) := ⟨⟨_, rfl, rfl⟩, ⟨_, rfl, rfl⟩⟩

/-- V-D89: the check ignores BUSY; V-D87: it needs CAL_EN. -/
theorem test_statusq_check :
    (∃ t, step (block .cCheck 3 9 (some reqStatus) (answers [byteAnswer 0x88])) = .next t ∧ t.res = some .ok) ∧
    (∃ t, step (block .cCheck 3 9 (some reqStatus) (answers [byteAnswer 0x10])) = .next t ∧
      t.res = some (.err .uncalibrated)) := ⟨⟨_, rfl, rfl⟩, ⟨_, rfl, rfl⟩⟩

/-- V-D20, V-D92. -/
theorem test_decode_stage_reading :
    ∃ t, step (decoding goodPayload) = .next t ∧ t.res = some (.okReading ⟨0x19999, 0xA6666, 10485700, 83886000⟩) := by
  refine ⟨_, rfl, ?_⟩; decide +kernel

/-- V-D25, V-D26: the checksum is tested before the flag. -/
theorem test_decode_stage_priority :
    (∃ t, step (decoding ⟨0x10, 0x19, 0x99, 0x9A, 0x66, 0x66, 0x8D⟩) = .next t ∧ t.res = some (.err .uncalibrated)) ∧
    (∃ t, step (decoding ⟨0x10, 0x19, 0x99, 0x9A, 0x66, 0x66, 0x8C⟩) = .next t ∧ t.res = some (.err .checksum)) := by
  refine ⟨⟨_, rfl, ?_⟩, ⟨_, rfl, ?_⟩⟩ <;> decide +kernel

/-- P1, second response: the message on the port. -/
theorem test_respond_step :
    ∃ t, step { decoding goodPayload with
        seq := .respond, res := some (.okReading ⟨0x19999, 0xA6666, 0x09FFFC4, 0x04FFFFB0⟩), env := answers [] } = .next t ∧
      t.seq = .idle ∧ t.trace = [.respond ⟨0, ⟨0⟩, 0x19999, 0xA6666, 0x09FFFC4, 0x04FFFFB0⟩] := ⟨_, rfl, rfl, rfl⟩

/-- The port view of a three-byte string and of a shorter one (R20, log 9). -/
theorem test_wdata :
    (BusString.b3 0xBE 0x08 0x01).wdata = 0x0108BE ∧ (BusString.b1 0x71).wdata = 0x000071 ∧
    (BusString.b3 0xBE 0x08 0x01).wlen = 3 := by decide

/-! ### Witnesses: for every statement with hypotheses, states and operands that meet them -/

/-- A block in RESPOND with the result `r` and `n` responses the host takes. -/
def responding (w : CmdWord) (r : Result) (n : Nat) : State :=
  { block .respond w 3 none ⟨[], [], 0, n⟩ with res := some r }

/-- A busy device, `k` answers. -/
def busyAnswers (k : Nat) : List BusResponse := List.replicate k (byteAnswer 0x80)

theorem busyAnswers_busy (k : Nat) : ∀ a ∈ busyAnswers k, isBusyAnswer a := by
  intro a h
  rw [List.eq_of_mem_replicate h]
  exact ⟨rfl, rfl⟩

/-- The command `w` offered with HANDLE = 1, the answers `l`, 11 sleeps answered and one response taken. -/
def scripted (w : CmdWord) (l : List BusResponse) : State :=
  { State.boot suggestedParameters ⟨[w, 5], l, 11, 1⟩ with handle := true }

/-- READ in M_POLL with its query in flight and answered. -/
def polling : State := block .mPoll 4 5 (some reqStatus) (answers [byteAnswer 0x80])

/-- READ in M_SLEEP with its sleep in flight and answered. -/
def sleeping : State := { block .mSleep 4 1 (some (.delay 10)) (answers []) with st := 0x80 }

theorem witness_DecodeEncodeAgree :
    (∃ c, Instr.wellFormed suggestedParameters .softReset = true ∧
      encode suggestedParameters .softReset = some c) ∧
    (∃ c, Instr.wellFormed suggestedParameters .reserved7 = true ∧
      encode suggestedParameters .reserved7 = some c) ∧
    (∃ c, Instr.wellFormed { suggestedParameters with payloadWprefix := .b0 } .payloadRead = true ∧
      encode { suggestedParameters with payloadWprefix := .b0 } .payloadRead = some c) :=
  ⟨⟨_, by decide, rfl⟩, ⟨_, by decide, rfl⟩, ⟨_, by decide, rfl⟩⟩

theorem witness_EncodeDecodeAgree :
    (∃ i, decode suggestedParameters (.frame [0xAC, 0x33, 0x00]) = .ok i) ∧
    (∃ i, decode suggestedParameters (.command 7) = .ok i) ∧
    (∃ e, decode suggestedParameters (.frame [0xAC, 0x33]) = .error e) := ⟨⟨_, rfl⟩, ⟨_, rfl⟩, ⟨_, rfl⟩⟩

theorem witness_AssemblerLineByLine :
    ∃ u v, assemble ["INIT"] = some u ∧ assemble ["READ", "DROP"] = some v := ⟨_, _, rfl, rfl⟩

theorem witness_BlockReset : ∃ e : Env, e.cmds = [] ∧ e ≠ Env.silent := ⟨answers [byteAnswer 0x18], by decide⟩

theorem witness_AcceptanceDispatch :
    (offered true 2).seq = .idle ∧ (offered true 2).handle = true ∧
    (offered false 2).seq = .idle ∧ (offered false 2).handle = false := by decide

theorem witness_CommandWaitsForIdle :
    (polling.seq ≠ .idle ∧ (commandWord .read).isSome = true) ∧
    (∃ t, step polling = .next t ∧ polling.seq ≠ .idle) ∧
    (∃ t, step (responding 5 .ok 1) = .next t ∧ (responding 5 .ok 1).seq ≠ .idle ∧ t.seq = .idle) ∧
    (∃ t, (offered true 4).seq = .idle ∧ (offered true 4).env.cmds = [4] ∧ step (offered true 4) = .next t) :=
  ⟨by decide, ⟨_, rfl, by decide⟩, ⟨_, rfl, by decide, rfl⟩, ⟨_, rfl, rfl, rfl⟩⟩

theorem witness_ReservedWordAnswered :
    ∀ w : CmdWord, w = 0 ∨ w = 6 ∨ w = 7 →
      (offered true w).seq = .idle ∧ (offered true w).env.cmds = [w] ∧ (offered true w).env.takes = 0 + 1 :=
  fun _ _ => ⟨rfl, rfl, rfl⟩

theorem witness_NoHandleRefused :
    ∀ w : CmdWord, w = 2 ∨ w = 3 ∨ w = 4 →
      (offered false w).seq = .idle ∧ (offered false w).handle = false ∧ (offered false w).env.cmds = [w] ∧
      (offered false w).env.takes = 0 + 1 := fun _ _ => ⟨rfl, rfl, rfl, rfl⟩

theorem witness_DropDestroysHandle :
    (offered true 5).seq = .idle ∧ (offered true 5).env.cmds = [5] ∧ (offered true 5).env.takes = 0 + 1 := by decide

theorem witness_FrameIssued :
    ∀ q ∈ ([.rWrite, .cWrite, .mWrite, .mFetch, .cPoll, .cCheck, .mPoll] : List SeqState),
      (block q 1 0 none Env.silent).outstanding = none ∧ (block q 1 0 none Env.silent).seq = q := fun _ _ => ⟨rfl, rfl⟩

theorem witness_FrameAnswered :
    ∀ q ∈ ([.rWrite, .cWrite, .mWrite, .mFetch] : List SeqState), ∀ a ∈ [byteAnswer 0xFF, errAnswer 255],
      (block q 1 0 (some (reqReset suggestedParameters)) (answers [a])).seq = q ∧
      (block q 1 0 (some (reqReset suggestedParameters)) (answers [a])).outstanding =
        some (reqReset suggestedParameters) ∧
      (block q 1 0 (some (reqReset suggestedParameters)) (answers [a])).env.bus = [a] :=
  fun _ _ _ _ => ⟨rfl, rfl, rfl⟩

theorem witness_UnansweredRequestWaits :
    (∃ r, (block .mPoll 4 5 (some reqStatus) Env.silent).outstanding = some r ∧
      (block .mPoll 4 5 (some reqStatus) Env.silent).env.bus = []) ∧
    (∃ r, (block .rSleep 1 0 (some (.delay 20)) Env.silent).outstanding = some r ∧
      (block .rSleep 1 0 (some (.delay 20)) Env.silent).env.sleeps = 0) := ⟨⟨_, rfl, rfl⟩, ⟨_, rfl, rfl⟩⟩

theorem witness_FrameOnlyInItsState :
    (offered true 4).seq ≠ .rWrite ∧ (offered true 4).seq ≠ .cWrite ∧ (offered true 4).seq ≠ .mWrite ∧
    (offered true 4).seq ≠ .mFetch ∧ (offered true 4).seq ≠ .cPoll ∧ (offered true 4).seq ≠ .cCheck ∧
    (offered true 4).seq ≠ .mPoll := by decide

theorem witness_StatusQueryRoundTrip :
    ∀ x ∈ ([(.cPoll, 3), (.cCheck, 3), (.cCheck, 1), (.mPoll, 4)] : List (SeqState × CmdWord)),
      ∀ a ∈ [byteAnswer 0x98, errAnswer 9],
      (block x.1 x.2 1 none Env.silent).seq = x.1 ∧ (block x.1 x.2 1 none Env.silent).outstanding = none ∧
      (block x.1 x.2 1 (some reqStatus) (answers [a])).seq = x.1 ∧
      (block x.1 x.2 1 (some reqStatus) (answers [a])).cmdr = x.2 ∧
      (block x.1 x.2 1 (some reqStatus) (answers [a])).outstanding = some reqStatus ∧
      (block x.1 x.2 1 (some reqStatus) (answers [a])).env.bus = [a] := fun _ _ _ _ => ⟨rfl, rfl, rfl, rfl, rfl, rfl⟩

theorem byteAnswer_byte (x : Byte) : x = (byteAnswer x).rdata.extractLsb' 0 8 := by
  apply BitVec.eq_of_toNat_eq
  simp [byteAnswer]
  omega

/-- Not busy; busy with a budget of 1; busy with a budget of 0. -/
theorem witness_CalibrationPoll :
    ∀ x ∈ ([(0x18, 0), (0x80, 1), (0x80, 0)] : List (Byte × Tries)),
      (block .cPoll 3 x.2 (some reqStatus) (answers [byteAnswer x.1])).seq = .cPoll ∧
      (block .cPoll 3 x.2 (some reqStatus) (answers [byteAnswer x.1])).tries = x.2 ∧
      (byteAnswer x.1).ok = true ∧ x.1 = (byteAnswer x.1).rdata.extractLsb' 0 8 :=
    fun x _ => ⟨rfl, rfl, rfl, byteAnswer_byte x.1⟩

theorem witness_CalibrationCheck_issue :
    (block .cCheck 3 9 none Env.silent).seq = .cCheck ∧ (block .cCheck 3 9 none Env.silent).outstanding = none :=
  ⟨rfl, rfl⟩

/-- CAL_EN set for CALIBRATE and for INIT; CAL_EN clear. -/
theorem witness_CalibrationCheck :
    ∀ x ∈ ([(0x88, 3), (0x18, 1), (0xF7, 3)] : List (Byte × CmdWord)),
      (block .cCheck x.2 0 (some reqStatus) (answers [byteAnswer x.1])).seq = .cCheck ∧
      (block .cCheck x.2 0 (some reqStatus) (answers [byteAnswer x.1])).cmdr = x.2 ∧
      (byteAnswer x.1).ok = true ∧ x.1 = (byteAnswer x.1).rdata.extractLsb' 0 8 :=
    fun x _ => ⟨rfl, rfl, rfl, byteAnswer_byte x.1⟩

/-- Not busy with the budget used up; busy with a budget of 1; busy with a budget of 0. -/
theorem witness_MeasurementPoll :
    ∀ x ∈ ([(0x00, 0), (0x98, 1), (0x98, 0)] : List (Byte × Tries)),
      (block .mPoll 4 x.2 (some reqStatus) (answers [byteAnswer x.1])).seq = .mPoll ∧
      (block .mPoll 4 x.2 (some reqStatus) (answers [byteAnswer x.1])).tries = x.2 ∧
      (byteAnswer x.1).ok = true ∧ x.1 = (byteAnswer x.1).rdata.extractLsb' 0 8 :=
    fun x _ => ⟨rfl, rfl, rfl, byteAnswer_byte x.1⟩

theorem witness_UnreadStatusBitsIgnored :
    (polling.seq = .mPoll ∧ polling.outstanding ≠ none ∧
      (byteAnswer 0x80).byteAt 0 ≠ (byteAnswer 0xF7).byteAt 0 ∧
      ((byteAnswer 0x80).byteAt 0).getLsbD 7 = ((byteAnswer 0xF7).byteAt 0).getLsbD 7 ∧
      ((byteAnswer 0x80).byteAt 0).getLsbD 3 = ((byteAnswer 0xF7).byteAt 0).getLsbD 3) ∧
    ((decoding goodPayload).seq = .mDecode ∧ (0x1C#8).getLsbD 3 = goodPayload.b0.getLsbD 3 ∧
      crc8 goodPayload.covered = goodPayload.b6 ∧ (0x3A : Byte) = crc8 [0x1C, 0x19, 0x99, 0x9A, 0x66, 0x66]) := by
  decide +kernel

theorem witness_CrcAffine : ([0x18, 0x19] : List Byte).length = ([0xFF, 0x00] : List Byte).length := rfl

/-- V-D20 as a 56-bit number, with its first bit, its first and last bits, and eight bits at its start flipped. -/
theorem witness_CrcDetectsErrors :
    crc8 (payloadOfBits 0x1819999A666657).covered = (payloadOfBits 0x1819999A666657).b6 ∧
    (∃ i, i < 56 ∧ 0x80000000000000#56 = (1#56) <<< i) ∧
    (∃ i j, i < j ∧ j < 56 ∧ 0x80000000000001#56 = ((1#56) <<< i) ^^^ ((1#56) <<< j)) ∧
    (∃ (i : Nat) (b : Byte), i ≤ 48 ∧ b ≠ 0 ∧ 0x81000000000000#56 = (b.setWidth 56) <<< i) :=
  ⟨by decide +kernel, ⟨55, by decide, by decide⟩, ⟨0, 55, by decide, by decide, by decide⟩,
    ⟨48, 0x81, by decide, by decide, by decide⟩⟩

theorem witness_conversions_increase : (0xFFFFE : Raw) < 0xFFFFF ∧ (0 : Raw) < 1 := by decide

theorem witness_SleepSteps :
    ((block .rSleep 1 0 none Env.silent).outstanding = none ∧ (block .rSleep 1 0 none Env.silent).seq = .rSleep) ∧
    ((block .cSleep 3 1 none Env.silent).outstanding = none ∧ (block .cSleep 3 1 none Env.silent).seq = .cSleep) ∧
    (∀ x ∈ ([(.rSleep, 2, 0), (.rSleep, 1, 0), (.cSleep, 3, 10), (.cSleep, 1, 1), (.mSleep, 4, 5), (.mSleep, 4, 1)] :
        List (SeqState × CmdWord × Tries)),
      (block x.1 x.2.1 x.2.2 (some (.delay 10)) (answers [])).outstanding = some (.delay 10) ∧
      (block x.1 x.2.1 x.2.2 (some (.delay 10)) (answers [])).env.sleeps = 0 + 1 ∧
      (block x.1 x.2.1 x.2.2 (some (.delay 10)) (answers [])).seq = x.1) :=
  ⟨⟨rfl, rfl⟩, ⟨rfl, rfl⟩, fun _ _ => ⟨rfl, rfl, rfl⟩⟩

/-- V-D21, V-D25 and V-D27 (PAY[0] busy): the three clauses. -/
theorem witness_DecodeStagePriority :
    crc8 [0x18, 0x19, 0x99, 0x9A, 0x66, 0x66] ≠ 0x56 ∧
    (crc8 [0x10, 0x19, 0x99, 0x9A, 0x66, 0x66] = 0x8D ∧ (0x10#8).getLsbD 3 = false) ∧
    (crc8 [0x98, 0x19, 0x99, 0x9A, 0x66, 0x66] = 0xBB ∧ (0x98#8).getLsbD 3 = true) ∧
    (decoding goodPayload).seq = .mDecode := by
  decide +kernel

theorem witness_DecodeStageRunsUnits :
    (decoding goodPayload).seq = .mDecode ∧ crc8 (decoding goodPayload).pay.covered = (decoding goodPayload).pay.b6 ∧
    (decoding goodPayload).pay.b0.getLsbD 3 = true := by
  decide +kernel

theorem witness_RespondReturnsToIdle :
    ((responding 4 (.err (.bus ⟨9⟩)) 0).seq = .respond ∧ (responding 4 (.err (.bus ⟨9⟩)) 0).env.takes = 0 ∧
      (responding 4 (.err (.bus ⟨9⟩)) 0).res = some (.err (.bus ⟨9⟩))) ∧
    ((responding 5 .ok 1).seq = .respond ∧ (responding 5 .ok 1).env.takes = 0 + 1 ∧
      (responding 5 .ok 1).res = some .ok) := by
  decide

theorem witness_StepRunsSelectedInstruction :
    ((offered true 4).seq = .idle ∧ (offered true 4).env.cmds = [4]) ∧
    ((State.boot suggestedParameters Env.silent).seq = .idle ∧ (State.boot suggestedParameters Env.silent).env.cmds = []) ∧
    (∀ q : SeqState, (block q 1 0 none Env.silent).seq = q) ∧ 7 < 8 :=
  ⟨⟨rfl, rfl⟩, ⟨rfl, rfl⟩, fun _ => rfl, by decide⟩

/-- INIT drops the handle; its successful end makes one. -/
theorem witness_HandleWriters :
    (∃ t, step (offered true 1) = .next t ∧ t.handle ≠ (offered true 1).handle) ∧
    (∃ t, step (offered true 5) = .next t ∧ t.handle ≠ (offered true 5).handle) ∧
    (∃ t, step { block .cCheck 1 0 (some reqStatus) (answers [byteAnswer 0x18]) with handle := false } = .next t ∧
      t.handle = true) :=
  ⟨⟨_, rfl, by decide⟩, ⟨_, rfl, by decide⟩, ⟨_, rfl, rfl⟩⟩

/-- A load of 10, a load of 5, a count down from 1 to 0, and an entry of a sleep. -/
theorem witness_TriesNeverWraps :
    (∃ t, step (block .cWrite 3 0 (some (reqCalibrate suggestedParameters)) (answers [byteAnswer 0])) = .next t ∧
      t.tries = 10) ∧
    (∃ t, step (block .mWrite 4 0 (some (reqTrigger suggestedParameters)) (answers [byteAnswer 0])) = .next t ∧
      t.tries = 5) ∧
    (∃ t, step sleeping = .next t ∧ sleeping.tries.toNat ≤ 10 ∧ sleeping.seq ≠ .respond ∧ t.tries = 0) ∧
    (∃ t, step polling = .next t ∧ polling.seq = .mPoll ∧ t.seq = .mSleep) :=
  ⟨⟨_, rfl, rfl⟩, ⟨_, rfl, rfl⟩, ⟨_, rfl, by decide, by decide, by decide⟩, ⟨_, rfl, rfl, rfl⟩⟩

/-- Each of T1 to T5 appears, and a step without an event. -/
theorem witness_OnlyFiveTransactions :
    (∀ q ∈ ([.rWrite, .cWrite, .mWrite, .mFetch, .cPoll, .cCheck, .mPoll] : List SeqState),
      ∃ t r, step (block q 1 0 none Env.silent) = .next t ∧ t.trace = [.bus r]) ∧
    (∃ t, step polling = .next t ∧ t.trace = polling.trace) := by
  refine ⟨?_, ⟨_, rfl, rfl⟩⟩
  simp only [List.forall_mem_cons]
  exact ⟨⟨_, _, rfl, rfl⟩, ⟨_, _, rfl, rfl⟩, ⟨_, _, rfl, rfl⟩, ⟨_, _, rfl, rfl⟩, ⟨_, _, rfl, rfl⟩, ⟨_, _, rfl, rfl⟩,
    ⟨_, _, rfl, rfl⟩, fun _ h => by cases h⟩

theorem polling_inv : ControlInv polling where
  inFlight := by intro r h; cases h; rfl
  pending := by decide
  command := by decide
  result := by intro r h; cases h
  resultWidth := by intro r h; cases h
  inputWidth := by show ∀ a ∈ [byteAnswer 0x80], a.err.code < 2 ^ 8; decide
  tries := by show (5 : Tries).toNat ≤ 5; decide
  handle := fun _ _ => by decide
  status := trivial

theorem sleeping_inv : ControlInv sleeping where
  inFlight := by intro r h; cases h; rfl
  pending := by decide
  command := by decide
  result := by intro r h; cases h
  resultWidth := by intro r h; cases h
  inputWidth := by intro a h; cases h
  tries := by show 0 < (1 : Tries).toNat ∧ (1 : Tries).toNat ≤ 5; decide
  handle := fun _ _ => by decide
  status := by show (0x80#8).getLsbD 7 = true; decide

/-- A query and a sleep in flight, each answered. -/
theorem witness_EventsInProgramOrder :
    (∃ t r, ControlInv polling ∧ polling.outstanding = some r ∧ step polling = .next t) ∧
    (∃ t r, ControlInv sleeping ∧ sleeping.outstanding = some r ∧ step sleeping = .next t) :=
  ⟨⟨_, _, polling_inv, rfl, rfl⟩, ⟨_, _, sleeping_inv, rfl, rfl⟩⟩

/-- READ in M_FETCH after a byte that was not busy. -/
def fetching : State := { block .mFetch 4 5 none (answers []) with st := 0x18 }

theorem fetching_inv : ControlInv fetching where
  inFlight := by intro r h; cases h
  pending := by decide
  command := by decide
  result := by intro r h; cases h
  resultWidth := by intro r h; cases h
  inputWidth := by intro a h; cases h
  tries := by show (5 : Tries).toNat ≤ 5; decide
  handle := fun _ _ => by decide
  status := by show (0x18#8).getLsbD 7 = false; decide

/-- The payload read goes out; the query before it; a busy answer in each poll and the sleep after it. -/
theorem witness_BusyHazardKept :
    (∃ t, ControlInv fetching ∧ step fetching = .next t ∧
      t.trace = fetching.trace ++ [.bus ⟨.writeRead, 0x38, fetching.cfg.payloadWprefix, 7⟩] ∧
      fetching.seq = .mFetch ∧ fetching.outstanding = none) ∧
    (∃ t, step (block .mPoll 4 0 (some reqStatus) (answers [byteAnswer 0x18])) = .next t ∧ t.seq = .mFetch) ∧
    (∃ t u, step polling = .next t ∧ polling.seq = .mPoll ∧ t.seq ≠ polling.seq ∧ t.res = none ∧
      t.st.getLsbD 7 = true ∧ t.outstanding = none ∧ step t = .next u) ∧
    (∃ t u, step (block .cPoll 3 1 (some reqStatus) (answers [byteAnswer 0x80])) = .next t ∧ t.seq ≠ .cPoll ∧
      t.res = none ∧ t.st.getLsbD 7 = true ∧ t.outstanding = none ∧ step t = .next u) :=
  ⟨⟨_, fetching_inv, rfl, rfl, rfl, rfl⟩, ⟨_, rfl, rfl⟩, ⟨_, _, rfl, rfl, by decide, rfl, rfl, rfl, rfl⟩,
    ⟨_, _, rfl, by decide, rfl, rfl, rfl, rfl⟩⟩

/-- READ fails when its last query shows busy. -/
def exhausted : State := { block .mPoll 4 0 (some reqStatus) (answers [byteAnswer 0x80]) with st := 0x80 }

theorem exhausted_inv : ControlInv exhausted where
  inFlight := by intro r h; cases h; rfl
  pending := by decide
  command := by decide
  result := by intro r h; cases h
  resultWidth := by intro r h; cases h
  inputWidth := by show ∀ a ∈ [byteAnswer 0x80], a.err.code < 2 ^ 8; decide
  tries := by show (0 : Tries).toNat ≤ 5; decide
  handle := fun _ _ => by decide
  status := trivial

/-- A failing INIT: the reset write is answered `err`. -/
def failingInit : State :=
  { block .rWrite 1 0 (some (reqReset suggestedParameters)) (answers [errAnswer 9]) with handle := false }

theorem failingInit_inv : ControlInv failingInit where
  inFlight := by intro r h; cases h; rfl
  pending := by decide
  command := by decide
  result := by intro r h; cases h
  resultWidth := by intro r h; cases h
  inputWidth := by show ∀ a ∈ [errAnswer 9], a.err.code < 2 ^ 8; decide
  tries := by show (0 : Tries).toNat ≤ 10; decide
  handle := fun _ _ => by decide
  status := trivial

theorem witness_FailureAborts :
    (∃ t k, ControlInv exhausted ∧ exhausted.seq ≠ .respond ∧ step exhausted = .next t ∧ t.res = some (.err k) ∧
      t.cmdr ≠ 1 ∧ t.env.takes = 0 + 1) ∧
    (∃ t k, ControlInv failingInit ∧ failingInit.seq ≠ .respond ∧ step failingInit = .next t ∧
      t.res = some (.err k) ∧ t.cmdr = 1 ∧ t.env.takes = 0 + 1) :=
  ⟨⟨_, _, exhausted_inv, by decide, rfl, rfl, by decide, rfl⟩, ⟨_, _, failingInit_inv, by decide, rfl, rfl, rfl, rfl⟩⟩

theorem witness_ParametersConstant : ∃ t, exec .statusq polling = .next t ∧ step polling = .next t := ⟨_, rfl, rfl⟩

/-- Two blocks in IDLE with different scratch registers. -/
theorem witness_DeadRegistersUnobservable :
    (scripted 4 []).seq = .idle ∧
    (scripted 4 []).observe = ({ scripted 4 [] with cmdr := 3, tries := 9, st := 0xFF, pay := goodPayload } : State).observe ∧
    scripted 4 [] ≠ { scripted 4 [] with cmdr := 3, tries := 9, st := 0xFF, pay := goodPayload } := by
  decide

theorem witness_InvariantAtReset : ∀ a ∈ [errAnswer 255, byteAnswer 0], a.err.fits 8 := by
  show ∀ a ∈ [errAnswer 255, byteAnswer 0], a.err.code < 2 ^ 8
  decide

theorem witness_InvariantKept : ∃ t, ControlInv sleeping ∧ step sleeping = .next t := ⟨_, sleeping_inv, rfl⟩

theorem witness_EventBudget :
    (∃ t, step polling = .next t ∧ polling.seq ≠ .idle) ∧
    (∃ t, (scripted 1 []).seq = .idle ∧ (scripted 1 []).outstanding = none ∧ (scripted 1 []).env.cmds = [1, 5] ∧
      step (scripted 1 []) = .next t) := ⟨⟨_, rfl, by decide⟩, ⟨_, rfl, rfl, rfl, rfl⟩⟩

theorem witness_AnsweredStepsMakeProgress :
    (∃ t, polling.seq ≠ .idle ∧ answered polling ∧ step polling = .next t) ∧
    (∃ t, sleeping.seq ≠ .idle ∧ answered sleeping ∧ step sleeping = .next t) ∧
    (∃ t, (responding 5 .ok 1).seq ≠ .idle ∧ answered (responding 5 .ok 1) ∧ step (responding 5 .ok 1) = .next t) :=
  ⟨⟨_, by decide, fun _ => by decide, rfl⟩, ⟨_, by decide, fun _ => by decide, rfl⟩,
    ⟨_, by decide, Nat.one_pos, rfl⟩⟩

theorem scripted_inv (w : CmdWord) (k : Nat) : ControlInv (scripted w (busyAnswers k)) where
  inFlight := by intro r h; cases h
  pending := ⟨fun h => (by cases h), fun h => (by cases h)⟩
  command := by show (0 : CmdWord) ∈ SeqState.idle.usedBy; decide
  result := by intro r h; cases h
  resultWidth := by intro r h; cases h
  inputWidth := by
    intro a h
    rw [List.eq_of_mem_replicate h]
    show (0 : Nat) < 2 ^ 8
    decide
  tries := by show (0 : Tries).toNat ≤ 10; decide
  handle := fun h _ => absurd rfl h
  status := trivial

theorem witness_EveryCommandEnds :
    ∀ w : CmdWord, ControlInv (scripted w (busyAnswers 14)) ∧ (scripted w (busyAnswers 14)).seq = .idle ∧
      (scripted w (busyAnswers 14)).env.cmds = [w, 5] ∧ 14 ≤ (scripted w (busyAnswers 14)).env.bus.length ∧
      11 ≤ (scripted w (busyAnswers 14)).env.sleeps ∧ 1 ≤ (scripted w (busyAnswers 14)).env.takes :=
  fun w => ⟨scripted_inv w 14, rfl, rfl, by show 14 ≤ (busyAnswers 14).length; decide, by show 11 ≤ 11; decide,
    by show 1 ≤ 1; decide⟩

/-- V-D80 and V-D81. -/
theorem witness_ResetCarriedOut :
    (scripted 2 []).seq = .idle ∧ (scripted 2 []).outstanding = none ∧ (scripted 2 []).handle = true ∧
    (scripted 2 []).env.cmds = [2, 5] ∧
    ∀ l ∈ [[byteAnswer 0], [errAnswer 9]],
      (∃ r, Reference.resultOf (fun _ => .ok) (Reference.resetPart suggestedParameters l).ending = some r) ∧
      Reference.sleepCount (Reference.resetPart suggestedParameters l).events ≤ (scripted 2 l).env.sleeps ∧
      1 ≤ (scripted 2 l).env.takes := by
  refine ⟨rfl, rfl, rfl, rfl, ?_⟩
  simp only [List.forall_mem_cons]
  exact ⟨⟨⟨_, rfl⟩, by decide, by decide⟩, ⟨⟨_, rfl⟩, by decide, by decide⟩, fun _ h => by cases h⟩

/-- V-D83, V-D85, V-D86. -/
theorem witness_CalibrateCarriedOut :
    (scripted 3 []).seq = .idle ∧ (scripted 3 []).outstanding = none ∧ (scripted 3 []).handle = true ∧
    (scripted 3 []).env.cmds = [3, 5] ∧
    ∀ l ∈ [[byteAnswer 0, byteAnswer 0x18, byteAnswer 0x18], busyAnswers 11 ++ [byteAnswer 0x00, byteAnswer 0x08],
        busyAnswers 12],
      (∃ r, Reference.resultOf (fun _ => .ok) (Reference.calibratePart suggestedParameters l).ending = some r) ∧
      Reference.sleepCount (Reference.calibratePart suggestedParameters l).events ≤ (scripted 3 l).env.sleeps ∧
      1 ≤ (scripted 3 l).env.takes := by
  refine ⟨rfl, rfl, rfl, rfl, ?_⟩
  simp only [List.forall_mem_cons]
  exact ⟨⟨⟨_, rfl⟩, by decide, by decide⟩, ⟨⟨_, rfl⟩, by decide, by decide⟩, ⟨⟨_, rfl⟩, by decide, by decide⟩,
    fun _ h => by cases h⟩

/-- The first INIT of P1, and V-D104. -/
theorem witness_InitCarriedOut :
    (scripted 1 []).seq = .idle ∧ (scripted 1 []).outstanding = none ∧ (scripted 1 []).env.cmds = [1, 5] ∧
    Reference.resultOf (fun _ => .ok) (Reference.initPart suggestedParameters
      [byteAnswer 0, byteAnswer 0, byteAnswer 0x18, byteAnswer 0x18]).ending = some .ok ∧
    Reference.resultOf (fun _ => .ok) (Reference.initPart suggestedParameters [byteAnswer 0, errAnswer 9]).ending =
      some (.err (.bus ⟨9⟩)) ∧
    Reference.sleepCount (Reference.initPart suggestedParameters
      [byteAnswer 0, byteAnswer 0, byteAnswer 0x18, byteAnswer 0x18]).events ≤ (scripted 1 []).env.sleeps ∧
    1 ≤ (scripted 1 []).env.takes := by
  decide

/-- V-D92, V-D94. -/
theorem witness_ReadCarriedOut :
    (scripted 4 []).seq = .idle ∧ (scripted 4 []).outstanding = none ∧ (scripted 4 []).handle = true ∧
    (scripted 4 []).env.cmds = [4, 5] ∧
    Reference.resultOf .okReading (Reference.readPart suggestedParameters
      [byteAnswer 0, byteAnswer 0x18, ⟨true, ⟨0⟩, 0x576666_9A9919_18⟩]).ending =
      some (.okReading ⟨0x19999, 0xA6666, 10485700, 83886000⟩) ∧
    Reference.resultOf .okReading (Reference.readPart suggestedParameters (busyAnswers 7)).ending =
      some (.err .maxTriesExceeded) ∧
    Reference.sleepCount (Reference.readPart suggestedParameters (busyAnswers 7)).events ≤ (scripted 4 []).env.sleeps ∧
    1 ≤ (scripted 4 []).env.takes := by
  decide +kernel

/-- `k` = 0 and `k` = 10 of the first clause, and the second clause. -/
theorem witness_CalibrateEventBudget :
    (∀ k ∈ [0, 10], ∃ w i c more, w.ok = true ∧ (∀ a ∈ busyAnswers k, isBusyAnswer a) ∧ (busyAnswers k).length ≤ 10 ∧
      isIdleAnswer i ∧ c.ok = true ∧
      (scripted 3 (byteAnswer 0 :: busyAnswers k ++ [byteAnswer 0x18, byteAnswer 0x18])).env.bus =
        w :: busyAnswers k ++ i :: c :: more) ∧
    ((busyAnswers 11).length = 11 ∧ (∀ a ∈ busyAnswers 11, isBusyAnswer a) ∧
      (scripted 3 (byteAnswer 0 :: busyAnswers 11 ++ [])).env.bus = byteAnswer 0 :: busyAnswers 11 ++ []) ∧
    ((scripted 3 []).seq = .idle ∧ (scripted 3 []).outstanding = none ∧ (scripted 3 []).handle = true ∧
      (scripted 3 []).env.cmds = [3, 5] ∧ 11 ≤ (scripted 3 []).env.sleeps ∧ 1 ≤ (scripted 3 []).env.takes) := by
  refine ⟨fun k hk => ⟨byteAnswer 0, byteAnswer 0x18, byteAnswer 0x18, [], rfl, busyAnswers_busy k, ?_, ⟨rfl, rfl⟩, rfl, rfl⟩,
    ⟨rfl, busyAnswers_busy 11, rfl⟩, by decide⟩
  revert k
  decide

/-- `k` = 0 and `k` = 5 of the first clause, and the second clause. -/
theorem witness_ReadEventBudget :
    (∀ k ∈ [0, 5], ∃ w i d more, w.ok = true ∧ (∀ a ∈ busyAnswers k, isBusyAnswer a) ∧ (busyAnswers k).length ≤ 5 ∧
      isIdleAnswer i ∧ d.ok = true ∧
      (scripted 4 (byteAnswer 0 :: busyAnswers k ++ [byteAnswer 0x18, byteAnswer 0x18])).env.bus =
        w :: busyAnswers k ++ i :: d :: more) ∧
    ((busyAnswers 6).length = 6 ∧ (∀ a ∈ busyAnswers 6, isBusyAnswer a) ∧
      (scripted 4 (byteAnswer 0 :: busyAnswers 6 ++ [])).env.bus = byteAnswer 0 :: busyAnswers 6 ++ []) ∧
    ((scripted 4 []).seq = .idle ∧ (scripted 4 []).outstanding = none ∧ (scripted 4 []).handle = true ∧
      (scripted 4 []).env.cmds = [4, 5] ∧ 11 ≤ (scripted 4 []).env.sleeps ∧ 1 ≤ (scripted 4 []).env.takes) := by
  refine ⟨fun k hk => ⟨byteAnswer 0, byteAnswer 0x18, byteAnswer 0x18, [], rfl, busyAnswers_busy k, ?_, ⟨rfl, rfl⟩, rfl, rfl⟩,
    ⟨rfl, busyAnswers_busy 6, rfl⟩, by decide⟩
  revert k
  decide

end Sys2Proof.Tests
end

section
/-! # The state family: proofs about every step of the block (R10 to R23, R112)

The operations' frames stand first; the invariant, the registers' writers and the dead registers are then cases on the
rows of the transition table (`step_row`). -/

namespace Sys2Proof.Machine

/-! ## What the operations write, and which row a step runs -/

/-! ### The dispatch of a command word -/

section gate
variable (q : SeqState) (s : State)

@[simp] theorem gate_seq : (gate q s).seq = if s.handle then q else .respond := by unfold gate; split <;> rfl
@[simp] theorem gate_handle : (gate q s).handle = s.handle := by unfold gate; split <;> rfl
@[simp] theorem gate_cmdr : (gate q s).cmdr = s.cmdr := by unfold gate; split <;> rfl
@[simp] theorem gate_tries : (gate q s).tries = s.tries := by unfold gate; split <;> rfl
@[simp] theorem gate_env : (gate q s).env = s.env := by unfold gate; split <;> rfl
end gate

section dispatched
variable (w : CmdWord) (s : State)

@[simp] theorem dispatched_cmdr : (dispatched w s).cmdr = w := by unfold dispatched; split_ifs <;> simp [*]
@[simp] theorem dispatched_tries : (dispatched w s).tries = s.tries := by unfold dispatched; split_ifs <;> simp
@[simp] theorem dispatched_env : (dispatched w s).env = s.env := by unfold dispatched; split_ifs <;> simp

/-- INIT and DROP clear HANDLE, no other command writes it (R13, R77). -/
theorem dispatched_handle : (dispatched w s).handle = if w = 1 ∨ w = 5 then false else s.handle := by
  unfold dispatched
  split_ifs <;> simp_all

/-- A command goes on in a state that writes its frame, or in RESPOND (R77, R112). -/
theorem dispatched_seq : (dispatched w s).seq ∈ [.rWrite, .cWrite, .mWrite, .respond] := by
  unfold dispatched
  cases hh : s.handle <;> split_ifs <;> simp [hh]
end dispatched

/-- A command on the port of a block in IDLE is taken off it and dispatched (R77). -/
theorem step_taken {s : State} {w : CmdWord} {rest : List CmdWord} (hq : s.seq = .idle) (hc : s.env.cmds = w :: rest) :
    step s = .next (dispatched w { s with env := { s.env with cmds := rest } }) := by
  rw [step_idle_offered hq hc, exec_command_idle (by exact hq)]
  rfl

/-- Outside IDLE no command is taken (R21). -/
theorem exec_command_busy {i : Instr} {s : State} (hq : s.seq ≠ .idle) (hi : (commandWord i).isSome = true) :
    exec i s = .next s := by
  cases i with
  | reserved0 | init | reset | calibrate | read | drop | reserved6 | reserved7 =>
    simp [exec, execReserved0, execInit, execReset, execCalibrate, execRead, execDrop, execReserved6, execReserved7,
      accept_busy hq]
  | status | softReset | calTrigger | measTrigger | payloadRead | statusq | statusDecode | crc8 | unpackH | unpackT
  | convRh | convT => simp [commandWord] at hi

/-! ### TRIES -/

theorem toNat_pos {n : Tries} (h : n ≠ 0) : 0 < n.toNat := by bv_omega

theorem calTries_le_ten : calTries.toNat ≤ 10 := by decide

theorem readTries_le_five : readTries.toNat ≤ 5 := by decide

/-- The count down after a sleep that a budget above zero let begin. -/
theorem countDown_tries_toNat {s : State} (h : 0 < s.tries.toNat) :
    (countDown s).tries.toNat + 1 = s.tries.toNat := by
  have h0 : s.tries ≠ 0 := by rintro h0; simp [h0] at h
  rw [countDown_tries, if_neg h0]
  bv_omega

theorem countDown_tries_le (s : State) : (countDown s).tries.toNat ≤ s.tries.toNat := by
  by_cases h : s.tries = 0
  · simp [h]
  · have := countDown_tries_toNat (toNat_pos h); omega

/-- The free value of TRIES in IDLE is within the bound (R15, log 5). -/
theorem returnToIdle_tries_le_ten (s : State) : (returnToIdle s).tries.toNat ≤ 10 := by
  have h := (Config.freeTries s.freeCount).isLt
  rw [returnToIdle_tries, BitVec.toNat_ofNat]
  omega

/-! ### The decode stage -/

/-- The decode stage as its three ends, each on the payload alone (R105). -/
theorem decodeStage_eq (s : State) : decodeStage s =
    if crc8 s.pay.covered ≠ s.pay.b6 then failWith .checksum (runCrc8 s)
    else if s.pay.b0.getLsbD 3 then finish (.okReading (decoded s).dp.reading) (decoded s)
    else failWith .uncalibrated (runStatusDecode .pay0 (runCrc8 s)) := by
  rcases decodeStage_cases s with ⟨h1, hs⟩ | ⟨h1, h3, hs⟩ | ⟨h1, h3, u, rfl, hs⟩ <;> rw [hs]
  · rw [if_pos h1]
  · rw [if_neg (not_not.mpr h1), if_neg (h3 ▸ Bool.false_ne_true)]
  · rw [if_neg (not_not.mpr h1), if_pos h3, decoded]

/-! ### The waits -/

/-- A row that is a transaction waits for its answer, in its own state and in any other (R18). -/
theorem inState_transact_waits {b : Bool} {r q : Request} {k : BusResponse → State → Outcome} {s : State}
    (ho : s.outstanding = some q) (hb : s.env.bus = []) : inState b (transact r k) s = .next s := by
  cases b with
  | true => rw [inState_here rfl, transact_waits ho hb]
  | false => rw [inState_elsewhere rfl]

/-! ### Which row a step runs -/

/-- In a state with a row of its own a step is that row (R12, R32). -/
theorem step_eq_exec {s : State} {q : SeqState} {i : Instr} (h0 : q ≠ .idle)
    (hi : ({ s with seq := q } : State).selected = some i) (hq : s.seq = q) : step s = exec i s := by
  subst hq
  simp only [step, show s.selected = some i from hi, afterFetch_eq s h0]

/-- A command word placed as a table word stands first on the port of a block in IDLE (log 12). -/
theorem withFetchWord_command {w : Nat} (hw : w < 8) (s : State) : s.withFetchWord 8 w =
    { s with seq := .idle, env := { s.env with cmds := BitVec.ofNat 3 w :: s.env.cmds } } := by
  simp [State.withFetchWord, tableCode, hw]

/-! ## The control invariant

### What the invariant gives in a state -/

/-- Nothing is in flight, and every answer the transport still holds fits its error width (R18, R20). -/
def Settled (s : State) : Prop := s.outstanding = none ∧ ∀ a ∈ s.env.bus, a.err.fits s.cfg.busErrW

/-- A command runs with nothing in flight and no result yet, and HANDLE is as its acceptance left it (R13, R77). The
single writes of SEQ, TRIES, ST, PAY and the units' outputs do not touch any of this. -/
def Running (s : State) : Prop := Settled s ∧ s.res = none ∧ (s.handle = true ↔ s.cmdr ≠ 1)

theorem ControlInv.settled_of_no_request {s : State} (hi : ControlInv s) (hr : s.seq.request s.cfg = none) :
    Settled s := by
  refine ⟨?_, hi.inputWidth⟩
  cases ho : s.outstanding with
  | none => rfl
  | some r => exact absurd (hi.inFlight r ho) (by simp [hr])

theorem ControlInv.res_none {s : State} (hi : ControlInv s) (hq : s.seq ≠ .respond) : s.res = none := by
  simpa [hq] using hi.pending

/-- A request in flight shows that a command runs, whatever its state (R12, R18). -/
theorem ControlInv.seq_of_inFlight {s : State} (hi : ControlInv s) (ho : s.outstanding.isSome = true) :
    s.seq ≠ .idle ∧ s.seq ≠ .respond := by
  obtain ⟨r, hr⟩ := Option.isSome_iff_exists.mp ho
  have hreq := hi.inFlight r hr
  constructor <;> intro hq <;> simp [hq, SeqState.request] at hreq

/-- The answer of a bus transaction: its error fits, and the command runs on with nothing in flight. -/
theorem ControlInv.busAnswered {s : State} {a : BusResponse} {rest : List BusResponse} (hi : ControlInv s)
    (h : BusAnswered s a rest) : Running (takeBusAnswer rest s) ∧ a.err.fits s.cfg.busErrW := by
  obtain ⟨ho, hb⟩ := h
  obtain ⟨h0, h1⟩ := hi.seq_of_inFlight ho
  have hw := hi.inputWidth
  rw [hb, List.forall_mem_cons] at hw
  exact ⟨⟨⟨rfl, hw.2⟩, hi.res_none h1, hi.handle h0 h1⟩, hw.1⟩

theorem ControlInv.sleepAnswered {s : State} {n : Nat} (hi : ControlInv s) (h : SleepAnswered s n) :
    Running (takeSleepAnswer n s) := by
  obtain ⟨h0, h1⟩ := hi.seq_of_inFlight h.1
  exact ⟨⟨rfl, hi.inputWidth⟩, hi.res_none h1, hi.handle h0 h1⟩

theorem ControlInv.tries_le_ten {s : State} (hi : ControlInv s) : s.tries.toNat ≤ 10 := by
  have ht := hi.tries
  unfold triesInRange at ht
  split at ht <;> omega

/-- The running command also passes through a state that the same commands pass through (R12). -/
theorem ControlInv.command_in {s : State} {p q : SeqState} (hi : ControlInv s) (hp : s.seq = p)
    (hpq : p.usedBy = q.usedBy) : s.cmdr ∈ q.usedBy := by
  rw [← hpq, ← hp]
  exact hi.command

/-- A result that every command passing through a state can end in (R12, R154). -/
theorem ControlInv.result_in {s : State} {p : SeqState} {r : Result} (hi : ControlInv s) (hp : s.seq = p)
    (hr : ∀ w ∈ p.usedBy, resultAllowed w r = true) : resultAllowed s.cmdr r = true :=
  hr s.cmdr (hi.command_in hp rfl)

theorem mem_usedBy_idle (w : CmdWord) : w ∈ SeqState.usedBy .idle := by revert w; decide

/-- Every command that issues a bus request can fail with a bus error (R12, R154). -/
theorem resultAllowed_bus {p : Parameters} {q : SeqState} {r : BusRequest} (hr : q.request p = some (.bus r))
    (e : BusErr) : ∀ w ∈ q.usedBy, resultAllowed w (.err (.bus e)) = true := by
  cases q with
  | rWrite | cWrite | cPoll | cCheck | mWrite | mPoll | mFetch => simp [SeqState.usedBy, resultAllowed]
  | idle | rSleep | cSleep | mSleep | mDecode | respond => simp [SeqState.request] at hr

/-! ### What each operation does to the invariant -/

/-- Entering a state of a running command. -/
theorem controlInv_goto {q : SeqState} {u : State} (hu : Running u) (hq : q ≠ .respond) (hc : u.cmdr ∈ q.usedBy)
    (ht : triesInRange (goto q u)) (hs : statusFitsState (goto q u)) : ControlInv (goto q u) := by
  obtain ⟨⟨ho, hin⟩, hr, hh⟩ := hu
  exact {
    inFlight := by simp [ho]
    pending := by simp [hr, hq]
    command := hc
    result := by simp [hr]
    resultWidth := by simp [hr]
    inputWidth := hin
    tries := ht
    handle := fun _ _ => hh
    status := hs }

/-- Ending a command in a result it is allowed. -/
theorem controlInv_finish {r : Result} {u : State} (hu : Settled u) (hr : resultAllowed u.cmdr r = true)
    (hw : r.errFits u.cfg.busErrW) (ht : u.tries.toNat ≤ 10) : ControlInv (finish r u) where
  inFlight := by simp [hu.1]
  pending := by simp
  command := mem_usedBy_idle u.cmdr
  result := by simpa using hr
  resultWidth := by simpa using hw
  inputWidth := hu.2
  tries := ht
  handle := fun _ h => absurd rfl h
  status := trivial

/-- A result that carries no transport error carries the zero code, which fits any width (R60). -/
theorem errFits_of_no_busErr {r : Result} {w : Nat} (h : r.busErr = ⟨0⟩) : r.errFits w := by
  simp [Result.errFits, BusErr.fits, h]

/-- The decode stage's units write none of the registers the invariant speaks of (R105). -/
theorem ControlInv.finish_of_mDecode {r : Result} {s u : State} (hi : ControlInv s) (hq : s.seq = .mDecode)
    (hu : u.cfg = s.cfg ∧ u.cmdr = s.cmdr ∧ u.tries = s.tries ∧ u.outstanding = s.outstanding ∧ u.env = s.env)
    (hr : resultAllowed 4 r = true) (hb : r.busErr = ⟨0⟩) : ControlInv (finish r u) := by
  obtain ⟨hcfg, hcmdr, htries, hout, henv⟩ := hu
  have hs : Settled s := hi.settled_of_no_request (by simp [hq, SeqState.request])
  have h4 : s.cmdr = 4 := by simpa [SeqState.usedBy] using hi.command_in hq rfl
  exact controlInv_finish (by simpa [Settled, hcfg, hout, henv] using hs) (by rwa [hcmdr, h4])
    (errFits_of_no_busErr hb) (htries ▸ hi.tries_le_ten)

theorem controlInv_issue {s : State} {r : Request} (hi : ControlInv s) (hr : s.seq.request s.cfg = some r) :
    ControlInv (issue r s) :=
  { hi with inFlight := by rintro _ ⟨⟩; exact hr }

/-- The gate of the three commands that need a handle (R77, R153). -/
theorem controlInv_gate {q : SeqState} {w : CmdWord} {u : State} (hu : Settled u) (hr : u.res = none)
    (ht : u.tries.toNat ≤ 10) (hwq : (w, q) ∈ [(2, .rWrite), (3, .cWrite), (4, .mWrite)]) :
    ControlInv (gate q (latchCommand w u)) := by
  simp only [List.mem_cons, List.not_mem_nil, Prod.mk.injEq, or_false] at hwq
  cases hh : u.handle with
  | true =>
    rw [gate_open (s := latchCommand w u) hh]
    rcases hwq with ⟨rfl, rfl⟩ | ⟨rfl, rfl⟩ | ⟨rfl, rfl⟩ <;>
      exact controlInv_goto ⟨hu, hr, by simp [hh]⟩ (by decide) (by simp [SeqState.usedBy]) ht trivial
  | false =>
    have hw : resultAllowed w (.err .noHandle) = true := by
      rcases hwq with ⟨rfl, -⟩ | ⟨rfl, -⟩ | ⟨rfl, -⟩ <;> rfl
    rw [gate_closed (s := latchCommand w u) hh]
    exact controlInv_finish hu hw (errFits_of_no_busErr rfl) ht

theorem controlInv_dispatched {u : State} (w : CmdWord) (hi : ControlInv u) (hq : u.seq = .idle) :
    ControlInv (dispatched w u) := by
  have hu : Settled u := hi.settled_of_no_request (by simp [hq, SeqState.request])
  have hr : u.res = none := hi.res_none (by simp [hq])
  have ht : u.tries.toNat ≤ 10 := hi.tries_le_ten
  unfold dispatched
  split_ifs with h1 h2 h3 h4 h5
  · exact controlInv_goto ⟨hu, hr, by simp⟩ (by simp) (by simp [SeqState.usedBy]) ht trivial
  · exact controlInv_gate hu hr ht (by simp)
  · exact controlInv_gate hu hr ht (by simp)
  · exact controlInv_gate hu hr ht (by simp)
  · exact controlInv_finish hu rfl (errFits_of_no_busErr rfl) ht
  · have hw : resultAllowed w (.err .badCommand) = true := by revert w; decide
    exact controlInv_finish hu hw (errFits_of_no_busErr rfl) ht

theorem controlInv_returnToIdle {u : State} (hu : Settled u) : ControlInv (returnToIdle u) where
  inFlight := by simp [hu.1]
  pending := by simp
  command := mem_usedBy_idle _
  result := by simp
  resultWidth := by simp
  inputWidth := hu.2
  tries := returnToIdle_tries_le_ten u
  handle := fun h => absurd rfl h
  status := trivial

/-! ### Every row keeps the invariant -/

/-- The transition table keeps the invariant (R112). -/
theorem controlInv_of_row {s t : State} (hi : ControlInv s) (h : StepRow s t) : ControlInv t := by
  have hle := hi.tries_le_ten
  have htries := hi.tries
  have hstatus := hi.status
  cases h with
  | idleWaits | busWaits | sleepWaits | responseWaits => exact hi
  | taken w rest hq => exact controlInv_dispatched w { hi with } hq
  | issued r ho hr => exact controlInv_issue hi hr
  | busFailed a rest r hr hb =>
    obtain ⟨hu, hw⟩ := hi.busAnswered hb
    exact controlInv_finish hu.1 (resultAllowed_bus hr a.err _ hi.command) hw hle
  | resetWritten a rest hq hb =>
    exact controlInv_goto (hi.busAnswered hb).1 (by decide) (hi.command_in hq rfl) hle trivial
  | calibrateWritten a rest hq hb =>
    exact controlInv_goto (hi.busAnswered hb).1 (by decide) (hi.command_in hq rfl) calTries_le_ten trivial
  | triggerWritten a rest hq hb =>
    exact controlInv_goto (hi.busAnswered hb).1 (by decide) (hi.command_in hq rfl) readTries_le_five trivial
  | payloadFetched a rest hq hb =>
    simp only [triesInRange, statusFitsState, hq] at htries hstatus
    exact controlInv_goto (hi.busAnswered hb).1 (by decide) (hi.command_in hq rfl) htries hstatus
  | calPollIdle a rest hq hb =>
    exact controlInv_goto (hi.busAnswered hb).1 (by decide) (hi.command_in hq rfl) hle trivial
  | calPollBusy a rest hq hb _ hbusy h0 =>
    exact controlInv_goto (hi.busAnswered hb).1 (by decide) (hi.command_in hq rfl) ⟨toNat_pos h0, hle⟩ hbusy
  | calPollGivenUp a rest hq hb =>
    exact controlInv_finish (hi.busAnswered hb).1.1 (hi.result_in hq (by decide)) (errFits_of_no_busErr rfl) hle
  | measPollIdle a rest hq hb _ hbusy =>
    simp only [triesInRange, hq] at htries
    exact controlInv_goto (hi.busAnswered hb).1 (by decide) (hi.command_in hq rfl) htries hbusy
  | measPollBusy a rest hq hb _ hbusy h0 =>
    simp only [triesInRange, hq] at htries
    exact controlInv_goto (hi.busAnswered hb).1 (by decide) (hi.command_in hq rfl) ⟨toNat_pos h0, htries⟩ hbusy
  | measPollGivenUp a rest hq hb =>
    exact controlInv_finish (hi.busAnswered hb).1.1 (hi.result_in hq (by decide)) (errFits_of_no_busErr rfl) hle
  | initChecked a rest hq hb | calibrateChecked a rest hq hb | checkFailed a rest hq hb =>
    exact controlInv_finish (hi.busAnswered hb).1.1 (hi.result_in hq (by decide)) (errFits_of_no_busErr rfl) hle
  | initSlept n hq hz h1 =>
    exact controlInv_goto (hi.sleepAnswered hz) (by decide) (by simp [SeqState.usedBy, h1]) hle trivial
  | resetSlept n hq hz h2 =>
    exact controlInv_finish (hi.sleepAnswered hz).1 (hi.result_in hq (by decide)) (errFits_of_no_busErr rfl) hle
  | calSlept n hq hz =>
    simp only [triesInRange, hq] at htries
    have hd : (countDown s).tries.toNat ≤ 10 := by have := countDown_tries_toNat htries.1; omega
    exact controlInv_goto (hi.sleepAnswered hz) (by decide) (hi.command_in hq rfl) hd trivial
  | measSlept n hq hz =>
    simp only [triesInRange, hq] at htries
    have hd : (countDown s).tries.toNat ≤ 5 := by have := countDown_tries_toNat htries.1; omega
    exact controlInv_goto (hi.sleepAnswered hz) (by decide) (hi.command_in hq rfl) hd trivial
  | checksumWrong hq | flagClear hq | readingDone hq =>
    exact hi.finish_of_mDecode hq (by simp [decoded]) rfl rfl
  | responded r n hq =>
    exact controlInv_returnToIdle (hi.settled_of_no_request (by simp [hq, SeqState.request]))

/-- Settles O50: a step is a row of the transition table, and every row keeps the invariant. -/
theorem invariantKept : Obligations.InvariantKept :=
  fun _ _ hi h => controlInv_of_row hi (step_row h)

/-! ## What a row writes of the port, HANDLE and TRIES -/

/-- A row outside IDLE leaves the port as it is, and only RESPOND's leads to IDLE. -/
theorem port_of_row {s t : State} (h : StepRow s t) (hq : s.seq ≠ .idle) :
    t.env.cmds = s.env.cmds ∧ (t.seq = .idle → s.seq = .respond) := by
  cases h with
  | idleWaits h0 | taken w rest h0 => exact absurd h0 hq
  | responded r n h0 => simp [h0]
  | issued | busWaits | sleepWaits | responseWaits => simp [hq]
  | busFailed | resetWritten | calibrateWritten | triggerWritten | payloadFetched | initSlept | resetSlept | calSlept
  | measSlept | checksumWrong | flagClear => simp
  | calPollIdle | calPollBusy | calPollGivenUp | measPollIdle | measPollBusy | measPollGivenUp | initChecked
  | calibrateChecked | checkFailed | readingDone => simp [afterQuery, decoded]

/-- Settles O8: `exec` outside IDLE, the rows' writes of the port, and the row that takes a command. -/
theorem commandWaitsForIdle : Obligations.CommandWaitsForIdle := by
  refine ⟨fun s i => exec_command_busy, fun s t h => port_of_row (step_row h), fun s t w rest hq hc h => ?_⟩
  rw [step_taken hq hc] at h
  cases h
  simp

/-! ### HANDLE -/

/-- HANDLE is written by the acceptance of a command and by INIT's passed check, and by no other row (R13). -/
theorem handle_of_row {s t : State} (h : StepRow s t) :
    t.handle = s.handle ∨
    (s.seq = .idle ∧ ∃ w rest, s.env.cmds = w :: rest ∧ t.handle = if w = 1 ∨ w = 5 then false else s.handle) ∨
    (s.seq = .cCheck ∧ s.cmdr = 1 ∧ t.handle = true ∧ t.seq = .respond ∧ t.res = some .ok) := by
  cases h with
  | taken w rest hq hc => exact .inr (.inl ⟨hq, w, rest, hc, dispatched_handle w _⟩)
  | initChecked a rest hq _ _ _ h1 => exact .inr (.inr ⟨hq, h1, rfl, rfl, rfl⟩)
  | checksumWrong | flagClear | readingDone => simp [decoded]
  | _ => exact .inl rfl

/-- Settles O41 from the rows' writes of HANDLE; of the accepted words only those of INIT and DROP change it. -/
theorem handleWriters : Obligations.HandleWriters := by
  intro s t h hne
  rcases handle_of_row (step_row h) with hh | ⟨hq, w, rest, hc, hh⟩ | hcheck
  · exact absurd hh hne
  · by_cases hw : w = 1 ∨ w = 5
    · refine .inl ⟨hq, by rw [hh, if_pos hw], rest, ?_⟩
      rcases hw with rfl | rfl
      · exact .inl hc
      · exact .inr hc
    · exact absurd (by rw [hh, if_neg hw]) hne
  · exact .inr hcheck

/-! ### TRIES -/

/-- How a row writes TRIES: a load at a trigger's answer, a count down at the answer of a poll's sleep, or a free value
on the return to IDLE (R11, R15, R190). -/
theorem tries_of_row {s t : State} (h : StepRow s t) :
    t.tries = s.tries ∨
    (s.seq = .cWrite ∧ t.tries = calTries ∧ t.seq = .cPoll) ∨
    (s.seq = .mWrite ∧ t.tries = readTries ∧ t.seq = .mPoll) ∨
    ((s.seq = .cSleep ∨ s.seq = .mSleep) ∧ t.env.sleeps + 1 = s.env.sleeps ∧ t.tries = (countDown s).tries) ∨
    (s.seq = .respond ∧ t.tries.toNat ≤ 10) := by
  cases h with
  | taken w rest => exact .inl (dispatched_tries w _)
  | calibrateWritten a rest h0 => exact .inr (.inl ⟨h0, rfl, rfl⟩)
  | triggerWritten a rest h0 => exact .inr (.inr (.inl ⟨h0, rfl, rfl⟩))
  | calSlept n h0 hz => exact .inr (.inr (.inr (.inl ⟨.inl h0, hz.2.symm, rfl⟩)))
  | measSlept n h0 hz => exact .inr (.inr (.inr (.inl ⟨.inr h0, hz.2.symm, rfl⟩)))
  | responded r n h0 => exact .inr (.inr (.inr (.inr ⟨h0, returnToIdle_tries_le_ten _⟩)))
  | checksumWrong | flagClear | readingDone => simp [decoded]
  | _ => exact .inl rfl

/-- The bound of R15. -/
theorem tries_le_ten_of_row {s t : State} (h : StepRow s t) (hle : s.tries.toNat ≤ 10) : t.tries.toNat ≤ 10 := by
  rcases tries_of_row h with ht | ⟨_, ht, _⟩ | ⟨_, ht, _⟩ | ⟨_, _, ht⟩ | ⟨_, ht⟩
  · exact ht ▸ hle
  · exact ht ▸ calTries_le_ten
  · exact ht ▸ readTries_le_five.trans (by decide)
  · exact ht ▸ (countDown_tries_le s).trans hle
  · exact ht

/-- A poll's sleep is entered from its query only, on a budget above zero (R95, R106). -/
theorem sleep_entry_of_row {s t : State} (h : StepRow s t) (hs : s.seq ≠ t.seq)
    (ht : t.seq = .cSleep ∨ t.seq = .mSleep) : (s.seq = .cPoll ∨ s.seq = .mPoll) ∧ 0 < s.tries.toNat := by
  cases h with
  | calPollBusy a rest h0 _ _ _ hn => exact ⟨.inl h0, toNat_pos hn⟩
  | measPollBusy a rest h0 _ _ _ hn => exact ⟨.inr h0, toNat_pos hn⟩
  | taken w rest =>
    have hd := dispatched_seq w { s with env := { s.env with cmds := rest } }
    rcases ht with ht | ht <;> simp [ht] at hd
  | idleWaits | busWaits | sleepWaits | responseWaits | issued => exact absurd rfl hs
  | _ => simp at ht

/-- Settles O42 from the rows' writes of TRIES and their entries of the sleeps. -/
theorem triesNeverWraps : Obligations.TriesNeverWraps := by
  intro s t h
  have hrow := step_row h
  refine ⟨tries_le_ten_of_row hrow, fun hq hne => ?_, fun hpoll => ?_, fun hsleep => ?_⟩
  · rcases tries_of_row hrow with ht | hload | hload | ⟨hs, hn, ht⟩ | ⟨hr, _⟩
    · exact absurd ht hne
    · exact .inl hload
    · exact .inr (.inl hload)
    · have h0 : s.tries ≠ 0 := fun h0 => hne (by rw [ht, countDown_tries, if_pos h0, h0])
      exact .inr (.inr ⟨hs, hn, by rw [ht]; exact countDown_tries_toNat (toNat_pos h0)⟩)
    · exact absurd hr hq
  · rcases hpoll with ⟨hs, ht⟩ | ⟨hs, ht⟩
    · exact (sleep_entry_of_row hrow (by simp [hs, ht]) (.inl ht)).2
    · exact (sleep_entry_of_row hrow (by simp [hs, ht]) (.inr ht)).2
  · rcases hsleep with ⟨hs, ht⟩ | ⟨hs, ht⟩
    · exact (sleep_entry_of_row hrow (ht ▸ hs) (.inl ht)).1
    · exact (sleep_entry_of_row hrow (ht ▸ hs) (.inr ht)).1

/-! ## Dead registers (R11)

### Two states that agree in everything live -/

/-- The states in which TRIES is live: the poll loops (R11, R95, R105). -/
def SeqState.polls : SeqState → Bool
  | .cPoll | .cSleep | .mPoll | .mSleep => true
  | .idle | .rWrite | .rSleep | .cWrite | .cCheck | .mWrite | .mFetch | .mDecode | .respond => false

/-- Two states an observer cannot tell apart, now or later: they agree in what is observed and in the registers that
are live in their state. ST and the units' outputs are live in none, since each is written before it is read. -/
structure Alike (s t : State) : Prop where
  observed : s.observe = t.observe
  cmdr : s.seq ≠ .idle → s.cmdr = t.cmdr
  tries : s.seq.polls = true → s.tries = t.tries
  pay : s.seq = .mDecode → s.pay = t.pay

/-- Two outcomes an observer cannot tell apart, now or later. -/
inductive OutcomesAlike : Outcome → Outcome → Prop where
  | next {s t : State} : Alike s t → OutcomesAlike (.next s) (.next t)
  | fault (f : Fault) : OutcomesAlike (.fault f) (.fault f)

theorem observe_eq_iff {s t : State} : s.observe = t.observe ↔
    s.cfg = t.cfg ∧ s.seq = t.seq ∧ s.handle = t.handle ∧ s.outstanding = t.outstanding ∧ s.res = t.res ∧
    s.env = t.env ∧ s.trace = t.trace := by
  simp [State.observe]

theorem Alike.seq_eq {s t : State} (h : Alike s t) : s.seq = t.seq := (observe_eq_iff.mp h.observed).2.1

/-! ### The operations keep two states alike -/

theorem Alike.issue {s t : State} (h : Alike s t) (r : Request) : Alike (issue r s) (issue r t) where
  observed := by have := observe_eq_iff.mp h.observed; simp [observe_eq_iff, this]
  cmdr := h.cmdr
  tries := h.tries
  pay := h.pay

theorem Alike.takeBusAnswer {s t : State} (h : Alike s t) (rest : List BusResponse) :
    Alike (takeBusAnswer rest s) (takeBusAnswer rest t) where
  observed := by have := observe_eq_iff.mp h.observed; simp [observe_eq_iff, this]
  cmdr := h.cmdr
  tries := h.tries
  pay := h.pay

theorem Alike.takeSleepAnswer {s t : State} (h : Alike s t) (n : Nat) :
    Alike (takeSleepAnswer n s) (takeSleepAnswer n t) where
  observed := by have := observe_eq_iff.mp h.observed; simp [observe_eq_iff, this]
  cmdr := h.cmdr
  tries := h.tries
  pay := h.pay

/-- Entering a state, in which TRIES and PAY must agree if they become live there. -/
theorem alike_goto {s t : State} (q : SeqState) (ho : s.observe = t.observe) (hc : s.cmdr = t.cmdr)
    (ht : q.polls = true → s.tries = t.tries) (hp : q = .mDecode → s.pay = t.pay) : Alike (goto q s) (goto q t) where
  observed := by have := observe_eq_iff.mp ho; simp [observe_eq_iff, this]
  cmdr := fun _ => hc
  tries := ht
  pay := hp

theorem alike_finish {s t : State} (r : Result) (ho : s.observe = t.observe) (hc : s.cmdr = t.cmdr) :
    Alike (finish r s) (finish r t) where
  observed := by have := observe_eq_iff.mp ho; simp [observe_eq_iff, this]
  cmdr := fun _ => hc
  tries := by simp [SeqState.polls]
  pay := by simp

theorem alike_transact {r : Request} {k : BusResponse → State → Outcome} {s t : State} (h : Alike s t)
    (hk : ∀ a rest, OutcomesAlike (k a (takeBusAnswer rest s)) (k a (takeBusAnswer rest t))) :
    OutcomesAlike (transact r k s) (transact r k t) := by
  obtain ⟨-, -, -, hout, -, henv, -⟩ := observe_eq_iff.mp h.observed
  cases ho : s.outstanding with
  | none =>
    rw [transact_issues ho, transact_issues (hout ▸ ho)]
    exact .next (h.issue r)
  | some q =>
    cases hb : s.env.bus with
    | nil =>
      rw [transact_waits ho hb, transact_waits (hout ▸ ho) (henv ▸ hb)]
      exact .next h
    | cons a rest =>
      rw [transact_answered ho hb, transact_answered (hout ▸ ho) (henv ▸ hb)]
      exact hk a rest

theorem alike_sleepFor {ms : Millis} {k : State → Outcome} {s t : State} (h : Alike s t)
    (hk : ∀ n, OutcomesAlike (k (takeSleepAnswer n s)) (k (takeSleepAnswer n t))) :
    OutcomesAlike (sleepFor ms k s) (sleepFor ms k t) := by
  obtain ⟨-, -, -, hout, -, henv, -⟩ := observe_eq_iff.mp h.observed
  cases ho : s.outstanding with
  | none =>
    rw [sleepFor_issues ho, sleepFor_issues (hout ▸ ho)]
    exact .next (h.issue _)
  | some q =>
    cases hz : s.env.sleeps with
    | zero =>
      rw [sleepFor_waits ho hz, sleepFor_waits (hout ▸ ho) (henv ▸ hz)]
      exact .next h
    | succ n =>
      rw [sleepFor_answered ho hz, sleepFor_answered (hout ▸ ho) (henv ▸ hz)]
      exact hk n

theorem alike_onAnswer {a : BusResponse} {k : State → Outcome} {s t : State} (h : Alike s t) (hq : s.seq ≠ .idle)
    (hk : OutcomesAlike (k s) (k t)) : OutcomesAlike (onAnswer a k s) (onAnswer a k t) := by
  unfold onAnswer
  split
  · exact hk
  · exact .next (alike_finish _ h.observed (h.cmdr hq))

/-- A transaction whose answer, when it is `ok`, keeps two states alike. -/
theorem alike_transact_onAnswer {r : Request} {k : BusResponse → State → Outcome} {s t : State} (h : Alike s t)
    (hq : s.seq ≠ .idle)
    (hk : ∀ a u v, Alike u v → u.seq = s.seq → OutcomesAlike (k a u) (k a v)) :
    OutcomesAlike (transact r (fun a => onAnswer a (k a)) s) (transact r (fun a => onAnswer a (k a)) t) :=
  alike_transact h fun a rest =>
    alike_onAnswer (h.takeBusAnswer rest) hq (hk a _ _ (h.takeBusAnswer rest) rfl)

/-! ### The states one by one -/

/-- The latched byte and its decoding: neither ST nor the decoder's output is live before them (R80, R83). -/
theorem Alike.latchedStatus {s t : State} (h : Alike s t) (b : Byte) :
    Alike (runStatusDecode .st (latchStatus b s)) (runStatusDecode .st (latchStatus b t)) where
  observed := by have := observe_eq_iff.mp h.observed; simp [observe_eq_iff, this]
  cmdr := h.cmdr
  tries := h.tries
  pay := h.pay

/-- The busy test of either poll loop, which reads the decoded byte and TRIES (R95, R106). -/
theorem alike_pollTest {s t : State} {k : ErrKind} {q q' : SeqState} (h : Alike s t) (h0 : s.seq ≠ .idle)
    (hp : s.seq.polls = true) (hd : s.dp.status = t.dp.status) (hq : q ≠ .mDecode) (hq' : q' ≠ .mDecode) :
    Alike (if s.dp.status.busy then if s.tries = 0 then failWith k s else goto q s else goto q' s)
      (if t.dp.status.busy then if t.tries = 0 then failWith k t else goto q t else goto q' t) := by
  rw [← hd, ← h.tries hp]
  split_ifs
  · exact alike_finish _ h.observed (h.cmdr h0)
  · exact alike_goto _ h.observed (h.cmdr h0) (fun _ => h.tries hp) fun hm => absurd hm hq
  · exact alike_goto _ h.observed (h.cmdr h0) (fun _ => h.tries hp) fun hm => absurd hm hq'

theorem alike_calCheckTest {s t : State} (h : Alike s t) (hq : s.seq = .cCheck) (hd : s.dp.status = t.dp.status) :
    OutcomesAlike (calCheckTest s) (calCheckTest t) := by
  have hc : s.cmdr = t.cmdr := h.cmdr (by simp [hq])
  have hh : (setHandle true s).observe = (setHandle true t).observe := by
    have := observe_eq_iff.mp h.observed
    simp [observe_eq_iff, this]
  unfold calCheckTest
  rw [← hd, ← hc]
  split_ifs
  · exact .next (alike_finish _ hh hc)
  · exact .next (alike_finish _ h.observed hc)
  · exact .fault _
  · exact .next (alike_finish _ h.observed hc)

theorem alike_callerTest {s t : State} (h : Alike s t) (hd : s.dp.status = t.dp.status) :
    OutcomesAlike (callerTest s) (callerTest t) := by
  unfold callerTest
  rw [← h.seq_eq]
  split
  next hq => exact .next (alike_pollTest h (by simp [hq]) (by simp [hq, SeqState.polls]) hd (by decide) (by decide))
  next hq => exact alike_calCheckTest h hq hd
  next hq => exact .next (alike_pollTest h (by simp [hq]) (by simp [hq, SeqState.polls]) hd (by decide) (by decide))
  all_goals exact .next h

theorem alike_resetSlept {s t : State} (h : Alike s t) (hq : s.seq = .rSleep) :
    OutcomesAlike (resetSlept s) (resetSlept t) := by
  have hc : s.cmdr = t.cmdr := h.cmdr (by simp [hq])
  unfold resetSlept
  rw [← hc]
  split_ifs
  · exact .next (alike_goto _ h.observed hc (by simp [SeqState.polls]) (by simp))
  · exact .next (alike_finish _ h.observed hc)
  · exact .fault _

theorem alike_pollSlept {s t : State} {q : SeqState} (h : Alike s t) (hs : s.seq = .cSleep ∨ s.seq = .mSleep)
    (hq : q ≠ .mDecode) : OutcomesAlike (pollSlept q s) (pollSlept q t) := by
  have hc : s.cmdr = t.cmdr := h.cmdr (by rcases hs with hs | hs <;> simp [hs])
  have ht : s.tries = t.tries := h.tries (by rcases hs with hs | hs <;> simp [hs, SeqState.polls])
  have ho : (countDown s).observe = (countDown t).observe := h.observed
  exact .next (alike_goto q ho hc (fun _ => by simp [ht]) fun h0 => absurd h0 hq)

/-- The units' outputs are written before they are read, so the stage depends on the payload only (R105). -/
theorem alike_decodeStage {s t : State} (h : Alike s t) (hq : s.seq = .mDecode) :
    Alike (decodeStage s) (decodeStage t) := by
  have hc : s.cmdr = t.cmdr := h.cmdr (by simp [hq])
  have hp : s.pay = t.pay := h.pay hq
  have hf := observe_eq_iff.mp h.observed
  have hr : (decoded s).dp.reading = (decoded t).dp.reading := by simp [decoded, Datapath.reading, hp]
  rw [decodeStage_eq, decodeStage_eq, ← hp, hr]
  split_ifs
  · exact alike_finish _ (by simp [observe_eq_iff, hf]) (by simp [hc])
  · exact alike_finish _ (by simp [observe_eq_iff, hf, decoded]) (by simp [hc, decoded])
  · exact alike_finish _ (by simp [observe_eq_iff, hf]) (by simp [hc])

theorem alike_returnToIdle {s t : State} (ho : s.observe = t.observe) : Alike (returnToIdle s) (returnToIdle t) where
  observed := by have := observe_eq_iff.mp ho; simp [observe_eq_iff, this]
  cmdr := fun h => absurd rfl h
  tries := by simp [SeqState.polls]
  pay := by simp

theorem alike_respondStep {s t : State} (h : Alike s t) : OutcomesAlike (respondStep s) (respondStep t) := by
  obtain ⟨-, -, -, -, hres, henv, -⟩ := observe_eq_iff.mp h.observed
  unfold respondStep
  rw [← hres, ← henv]
  split
  · exact .fault _
  · split
    · exact .next h
    · exact .next (alike_returnToIdle (by simp [observe_eq_iff, observe_eq_iff.mp h.observed]))

theorem alike_gate {s t : State} {q : SeqState} (hq : q.polls = false) (hd : q ≠ .mDecode)
    (ho : s.observe = t.observe) (hc : s.cmdr = t.cmdr) : Alike (gate q s) (gate q t) := by
  obtain ⟨-, -, hh, -⟩ := observe_eq_iff.mp ho
  unfold gate
  rw [← hh]
  split_ifs
  · exact alike_goto q ho hc (by simp [hq]) fun h => absurd h hd
  · exact alike_finish _ ho hc

/-- Every command loads CMDR at acceptance, so what it held in IDLE is dead (R11, R77). -/
theorem alike_dispatched {s t : State} (w : CmdWord) (ho : s.observe = t.observe) :
    Alike (dispatched w s) (dispatched w t) := by
  have hl : (latchCommand w s).observe = (latchCommand w t).observe := ho
  have hd : (setHandle false (latchCommand w s)).observe = (setHandle false (latchCommand w t)).observe := by
    simp [observe_eq_iff, observe_eq_iff.mp ho]
  unfold dispatched
  split_ifs with h1 h2 h3 h4 h5
  · subst h1; exact alike_goto _ hd rfl (by simp [SeqState.polls]) (by simp)
  · subst h2; exact alike_gate (by decide) (by decide) hl rfl
  · subst h3; exact alike_gate (by decide) (by decide) hl rfl
  · subst h4; exact alike_gate (by decide) (by decide) hl rfl
  · subst h5; exact alike_finish _ hd rfl
  · exact alike_finish _ hl rfl

/-- One step keeps two states alike, stops included. -/
theorem alike_step {s t : State} (h : Alike s t) : OutcomesAlike (step s) (step t) := by
  have ht := h.seq_eq
  obtain ⟨hcfg, -, -, -, -, henv, -⟩ := observe_eq_iff.mp h.observed
  cases hq : s.seq with
  | idle =>
    cases hc : s.env.cmds with
    | nil =>
      rw [step_idle_empty hq hc, step_idle_empty (ht ▸ hq) (henv ▸ hc)]
      exact .next h
    | cons w rest =>
      rw [step_taken hq hc, step_taken (ht ▸ hq) (henv ▸ hc)]
      exact .next (alike_dispatched w (by simp [observe_eq_iff, observe_eq_iff.mp h.observed]))
  | rWrite =>
    rw [step_rWrite hq, step_rWrite (ht ▸ hq), ← hcfg]
    exact alike_transact_onAnswer h (by simp [hq]) fun a u v huv hu =>
      .next (alike_goto _ huv.observed (huv.cmdr (by simp [hu, hq])) (by simp [SeqState.polls]) (by simp))
  | cWrite =>
    rw [step_cWrite hq, step_cWrite (ht ▸ hq), ← hcfg]
    exact alike_transact_onAnswer h (by simp [hq]) fun a u v huv hu =>
      .next (alike_goto _ huv.observed (huv.cmdr (by simp [hu, hq])) (fun _ => rfl) (by simp))
  | mWrite =>
    rw [step_mWrite hq, step_mWrite (ht ▸ hq), ← hcfg]
    simp only [enterMeasureLoop_readTries]
    exact alike_transact_onAnswer h (by simp [hq]) fun a u v huv hu =>
      .next (alike_goto _ huv.observed (huv.cmdr (by simp [hu, hq])) (fun _ => rfl) (by simp))
  | mFetch =>
    rw [step_mFetch hq, step_mFetch (ht ▸ hq), ← hcfg]
    exact alike_transact_onAnswer h (by simp [hq]) fun a u v huv hu =>
      .next (alike_goto _ huv.observed (huv.cmdr (by simp [hu, hq])) (by simp [SeqState.polls]) (fun _ => rfl))
  | cPoll | cCheck | mPoll =>
    rw [step_query (by simp [hq, SeqState.queriesStatus]), step_query (by simp [← ht, hq, SeqState.queriesStatus])]
    exact alike_transact_onAnswer h (by simp [hq]) fun a u v huv hu =>
      alike_callerTest (huv.latchedStatus _) rfl
  | rSleep =>
    rw [step_rSleep hq, step_rSleep (ht ▸ hq)]
    exact alike_sleepFor h fun n => alike_resetSlept (h.takeSleepAnswer n) hq
  | cSleep =>
    rw [step_cSleep hq, step_cSleep (ht ▸ hq)]
    exact alike_sleepFor h fun n => alike_pollSlept (h.takeSleepAnswer n) (.inl hq) (by simp)
  | mSleep =>
    rw [step_mSleep hq, step_mSleep (ht ▸ hq)]
    exact alike_sleepFor h fun n => alike_pollSlept (h.takeSleepAnswer n) (.inr hq) (by simp)
  | mDecode =>
    rw [step_mDecode hq, step_mDecode (ht ▸ hq)]
    exact .next (alike_decodeStage h hq)
  | respond =>
    rw [step_respond hq, step_respond (ht ▸ hq)]
    exact alike_respondStep h

/-- Alike states stay indistinguishable for any number of steps. -/
theorem observe_stepN {s t : State} (n : Nat) (h : Alike s t) :
    observeOutcome (stepN n s) = observeOutcome (stepN n t) := by
  induction n generalizing s t with
  | zero => exact congrArg Sum.inl h.observed
  | succ n ih =>
    have hst := alike_step h
    unfold stepN
    generalize step s = x, step t = y at hst ⊢
    cases hst with
    | next huv => exact ih huv
    | fault f => rfl

/-- Settles O48: in IDLE no scratch register is live, and alike states have the same observations ever after. -/
theorem deadRegistersUnobservable : Obligations.DeadRegistersUnobservable := by
  intro s t n hq ho
  exact observe_stepN n ⟨ho, fun h => absurd hq h, by simp [hq, SeqState.polls], by simp [hq]⟩

/-! ## Block reset, the waits, and which row a step runs -/

/-- Settles O6: each field as `State.boot` has it, and the wait of IDLE with an empty port. -/
theorem blockReset : Obligations.BlockReset :=
  fun p e => ⟨rfl, rfl, rfl, rfl, rfl, step_idle_empty (s := State.boot p e) rfl, rfl⟩

/-- Settles O14: the rows that are transactions, STATUS with its request in flight, and the three sleeps. -/
theorem unansweredRequestWaits : Obligations.UnansweredRequestWaits := by
  intro s r ho
  refine ⟨fun hb => ?_, fun hz hq => ?_⟩
  · have hs : exec .status s = .next s := by
      simp only [exec, execStatus]
      exact inState_elsewhere (by simp [ho])
    exact ⟨inState_transact_waits ho hb, inState_transact_waits ho hb, inState_transact_waits ho hb,
      inState_transact_waits ho hb, hs, inState_transact_waits ho hb⟩
  · rcases hq with hq | hq | hq
    · rw [step_rSleep hq, sleepFor_waits ho hz]
    · rw [step_cSleep hq, sleepFor_waits ho hz]
    · rw [step_mSleep hq, sleepFor_waits ho hz]

/-- Settles O40: the row of each state, and the placed words, whose decoding computes. -/
theorem stepRunsSelectedInstruction : Obligations.StepRunsSelectedInstruction := by
  refine ⟨fun s w rest hq hc => step_idle_offered hq hc, fun s => ?_, fun s w hw => ?_, fun s => ?_⟩
  · refine ⟨step_idle_empty, step_eq_exec (by decide) rfl, step_eq_exec (by decide) rfl, step_eq_exec (by decide) rfl,
      step_eq_exec (by decide) rfl, ?_⟩
    rintro (hq | hq | hq) <;> exact step_eq_exec (by decide) rfl hq
  · rw [withFetchWord_command hw]
    exact step_idle_offered rfl rfl
  · exact ⟨rfl, rfl, rfl, rfl, rfl⟩

end Sys2Proof.Machine
end

section
/-! # The memory family: the bus and delay channels, the CRC register, the parameters (R31 to R43)

The parameters are the only store a run never writes. What the block puts on its channels, and in which order, is again
cases on the rows of the transition table (`step_row`). -/

namespace Sys2Proof.Machine

/-! ## The frames, each in its state (R31, R32) -/

/-- A row that is a transaction sends its request out in its own state, with nothing in flight (R18, R31). -/
theorem inState_transact_issues {b : Bool} {r : Request} {k : BusResponse → State → Outcome} {s : State} (hb : b = true)
    (ho : s.outstanding = none) : inState b (transact r k) s = .next (issue r s) := by
  rw [inState_here hb, transact_issues ho]

/-- The states that query the status (R32 row T4). -/
theorem queriesStatus_iff {q : SeqState} : q.queriesStatus = true ↔ q = .cPoll ∨ q = .cCheck ∨ q = .mPoll := by
  cases q <;> decide

/-- The frame STATUS goes out where a status query has nothing in flight (R54, R80). -/
theorem exec_status (s : State) : exec .status s =
    if (s.seq.queriesStatus && s.outstanding.isNone) = true then .next (issue reqStatus s) else .next s := rfl

/-- Settles O12: each frame's guard holds in its state, and a transaction with nothing in flight issues its request. -/
theorem frameIssued : Obligations.FrameIssued := by
  intro s ho
  refine ⟨fun hq => inState_transact_issues (by simp [hq]) ho, fun hq => inState_transact_issues (by simp [hq]) ho,
    fun hq => inState_transact_issues (by simp [hq]) ho, fun hq => inState_transact_issues (by simp [hq]) ho,
    fun hq => ?_⟩
  have hq := queriesStatus_iff.mpr hq
  have hstatus : exec .status s = .next (issue reqStatus s) := by simp [exec_status, hq, ho]
  have hstatusq : exec .statusq s = .next (issue reqStatus s) := inState_transact_issues hq ho
  exact ⟨hstatus, hstatusq.trans hstatus.symm⟩

/-- Settles O15: the guard of each frame and of the status query fails outside its states. -/
theorem frameOnlyInItsState : Obligations.FrameOnlyInItsState := by
  intro s
  refine ⟨fun hq => inState_elsewhere (by simp [hq]), fun hq => inState_elsewhere (by simp [hq]),
    fun hq => inState_elsewhere (by simp [hq]), fun hq => inState_elsewhere (by simp [hq]), fun h1 h2 h3 => ?_⟩
  have hq : s.seq.queriesStatus = false := by simp [← Bool.not_eq_true, queriesStatus_iff, h1, h2, h3]
  exact ⟨by simp [exec_status, hq], inState_elsewhere hq⟩

/-! ## The CRC register (R39) -/

/-- The shift register of R39 takes one bit: its top bit and the bit decide whether the polynomial is added. -/
def crcFeed (c : Byte) (x : Bool) : Byte := if (c.getLsbD 7 ^^ x) = true then (c <<< 1) ^^^ crcPoly else c <<< 1

/-- A byte still to be consumed may stand in the register from the beginning: feeding its top bit is then one turn,
and the rest of the byte moves up. -/
theorem crcFeed_xor (c b : Byte) : crcFeed (c ^^^ b) (b.getLsbD 7) = crcShift c ^^^ b <<< 1 := by
  have hx : (c.getLsbD 7 ^^ b.getLsbD 7 ^^ b.getLsbD 7) = c.getLsbD 7 := by simp
  rw [crcFeed, BitVec.getLsbD_xor, hx, crcShift, BitVec.shiftLeft_xor_distrib]
  split_ifs
  · rw [BitVec.xor_assoc, BitVec.xor_comm (b <<< 1), ← BitVec.xor_assoc]
  · rfl

/-- A turn may be added at the end. -/
theorem crcShifts_succ (n : Nat) (c : Byte) : crcShifts (n + 1) c = crcShift (crcShifts n c) := by
  induction n generalizing c with
  | zero => rfl
  | succ n ih => exact ih (crcShift c)

/-- The register after the top `n` bits of a byte: `n` turns of R120, but for the bits of the byte not yet consumed. -/
theorem foldl_crcFeed (c b : Byte) {n : Nat} (hn : n ≤ 8) :
    ((List.range n).map fun k => b.getLsbD (7 - k)).foldl crcFeed c = crcShifts n (c ^^^ b) ^^^ b <<< n := by
  induction n with
  | zero => simp [crcShifts]
  | succ n ih =>
    have hbit : b.getLsbD (7 - n) = (b <<< n).getLsbD 7 := by
      rw [BitVec.getLsbD_shiftLeft]
      simp [show ¬ 7 < n by omega]
    rw [List.range_succ, List.map_append, List.foldl_append, ih (by omega), List.map_singleton, List.foldl_cons,
      List.foldl_nil, hbit, crcFeed_xor, crcShifts_succ, BitVec.shiftLeft_add]

/-- A whole byte fed bit 7 to bit 0 is the byte step of R120. -/
theorem foldl_crcFeed_byte (c b : Byte) :
    ((List.range 8).map fun k => b.getLsbD (7 - k)).foldl crcFeed c = crcByte c b := by
  have hb : b <<< 8 = 0#8 := by simp
  rw [foldl_crcFeed c b le_rfl, hb, BitVec.xor_zero, crcByte]

/-- Settles O24: the byte steps are the bits fed byte after byte; the instruction's operand is `PAY[0..5]`. -/
theorem crcConsumesBitsMsbFirst : Obligations.CrcConsumesBitsMsbFirst := by
  refine ⟨fun m => ?_, fun s => ⟨_, rfl, rfl⟩⟩
  change crc8 m = (m.flatMap fun b => (List.range 8).map fun k => b.getLsbD (7 - k)).foldl crcFeed crcInit
  simp only [crc8_eq_foldl, List.foldl_flatMap, foldl_crcFeed_byte]

/-! ## The events a step causes (R32, R40) -/

@[simp] theorem gate_trace (q : SeqState) (s : State) : (gate q s).trace = s.trace := by unfold gate; split <;> rfl
@[simp] theorem gate_cfg (q : SeqState) (s : State) : (gate q s).cfg = s.cfg := by unfold gate; split <;> rfl

@[simp] theorem dispatched_trace (w : CmdWord) (s : State) : (dispatched w s).trace = s.trace := by
  unfold dispatched; split_ifs <;> simp
@[simp] theorem dispatched_cfg (w : CmdWord) (s : State) : (dispatched w s).cfg = s.cfg := by
  unfold dispatched; split_ifs <;> simp

/-- What a row adds to the record of events: nothing, the request of its state, or the response (R6, R12). -/
theorem trace_of_row {s t : State} (h : StepRow s t) :
    t.trace = s.trace ∨
    (∃ r, s.outstanding = none ∧ s.seq.request s.cfg = some r ∧ t = issue r s) ∨
    (∃ r, s.seq = .respond ∧ t.trace = s.trace ++ [.respond r]) := by
  cases h with
  | taken w rest => exact .inl (dispatched_trace w _)
  | issued r ho hr => exact .inr (.inl ⟨r, ho, hr, rfl⟩)
  | responded r n hq => exact .inr (.inr ⟨_, hq, rfl⟩)
  | checksumWrong | flagClear | readingDone => simp [decoded]
  | _ => exact .inl rfl

theorem Request.event_eq_bus {r : Request} {b : BusRequest} (h : r.event = .bus b) : r = .bus b := by
  cases r with
  | bus r => cases h; rfl
  | delay ms => cases h

/-- Settles O43: a bus event is the request of the state that issues it (R12), and the commands of the last column of
R32 are those that pass through that state. -/
theorem onlyFiveTransactions : Obligations.OnlyFiveTransactions := by
  intro s t h
  rcases trace_of_row (step_row h) with ht | ⟨q, -, hreq, rfl⟩ | ⟨r, -, ht⟩
  · exact .inl ht
  · refine .inr ⟨q.event, issue_trace q s, fun r hr => ?_⟩
    rw [Request.event_eq_bus hr] at hreq
    have hcmd : ControlInv s → s.cmdr ∈ s.seq.usedBy := ControlInv.command
    generalize s.seq = p at hreq hcmd ⊢
    cases p with simp only [SeqState.usedBy, List.mem_cons, List.not_mem_nil, or_false] at hcmd
    | idle | rSleep | cSleep | mSleep | mDecode | respond => cases hreq
    | rWrite => cases hreq; exact .inl ⟨rfl, rfl, fun hi => (hcmd hi).symm⟩
    | cWrite => cases hreq; exact .inr (.inl ⟨rfl, rfl, fun hi => (hcmd hi).symm⟩)
    | mWrite => cases hreq; exact .inr (.inr (.inl ⟨rfl, rfl, hcmd⟩))
    | cPoll | cCheck =>
      cases hreq
      exact .inr (.inr (.inr (.inl ⟨by simp, rfl, fun hi => (hcmd hi).imp_right .inl⟩)))
    | mPoll => cases hreq; exact .inr (.inr (.inr (.inl ⟨by simp, rfl, fun hi => .inr (.inr (hcmd hi))⟩)))
    | mFetch => cases hreq; exact .inr (.inr (.inr (.inr ⟨rfl, rfl, hcmd⟩)))
  · exact .inr ⟨_, ht, fun r hr => by cases hr⟩

/-- A row run while a bus request is in flight waits or takes the transport's answer (R18, R40). -/
theorem busAnswer_of_row {s t : State} {b : BusRequest} (h : StepRow s t) (ho : s.outstanding.isSome = true)
    (hr : s.seq.request s.cfg = some (.bus b)) :
    t.trace = s.trace ∧
    (t = s ∨ (t.outstanding = none ∧ t.env.sleeps = s.env.sleeps ∧ ∃ a, s.env.bus = a :: t.env.bus)) := by
  cases h with
  | busWaits => exact ⟨rfl, .inl rfl⟩
  | issued r hn => simp [hn] at ho
  | busFailed a rest r _ hb => exact ⟨rfl, .inr ⟨rfl, rfl, a, hb.2⟩⟩
  | resetWritten a rest _ hb | calibrateWritten a rest _ hb | triggerWritten a rest _ hb | payloadFetched a rest _ hb
  | calPollIdle a rest _ hb | calPollBusy a rest _ hb | calPollGivenUp a rest _ hb | measPollIdle a rest _ hb
  | measPollBusy a rest _ hb | measPollGivenUp a rest _ hb | initChecked a rest _ hb | calibrateChecked a rest _ hb
  | checkFailed a rest _ hb => exact ⟨rfl, .inr ⟨rfl, rfl, a, hb.2⟩⟩
  | sleepWaits ms _ hd => simp [hd] at hr
  | idleWaits hq | taken _ _ hq | initSlept _ hq | resetSlept _ hq | calSlept _ hq | measSlept _ hq | checksumWrong hq
  | flagClear hq | readingDone hq | responseWaits _ hq | responded _ _ hq => simp [hq, SeqState.request] at hr

/-- A row run while a sleep is in flight waits or takes the delay source's answer (R18, R40). -/
theorem sleepAnswer_of_row {s t : State} {ms : Millis} (h : StepRow s t) (ho : s.outstanding.isSome = true)
    (hr : s.seq.request s.cfg = some (.delay ms)) :
    t.trace = s.trace ∧
    (t = s ∨ (t.outstanding = none ∧ t.env.bus = s.env.bus ∧ s.env.sleeps = t.env.sleeps + 1)) := by
  cases h with
  | sleepWaits => exact ⟨rfl, .inl rfl⟩
  | issued r hn => simp [hn] at ho
  | initSlept n _ hz | resetSlept n _ hz | calSlept n _ hz | measSlept n _ hz => exact ⟨rfl, .inr ⟨rfl, rfl, hz.2⟩⟩
  | busWaits r _ hd | busFailed _ _ r hd => simp [hd] at hr
  | idleWaits hq | taken _ _ hq | resetWritten _ _ hq | calibrateWritten _ _ hq | triggerWritten _ _ hq
  | payloadFetched _ _ hq | calPollIdle _ _ hq | calPollBusy _ _ hq | calPollGivenUp _ _ hq | measPollIdle _ _ hq
  | measPollBusy _ _ hq | measPollGivenUp _ _ hq | initChecked _ _ hq | calibrateChecked _ _ hq | checkFailed _ _ hq
  | checksumWrong hq | flagClear hq | readingDone hq | responseWaits _ hq | responded _ _ hq =>
    simp [hq, SeqState.request, reqReset, reqCalibrate, reqTrigger, reqStatus, reqPayload, busWrite, busWriteRead] at hr

/-- Settles O44: by the invariant the request in flight is its state's, so the row answers it or waits. -/
theorem eventsInProgramOrder : Obligations.EventsInProgramOrder := by
  intro s t r hi hr h
  have ho : s.outstanding.isSome = true := by simp [hr]
  have hreq := hi.inFlight r hr
  cases r with
  | bus b => exact busAnswer_of_row (step_row h) ho hreq
  | delay ms => exact sleepAnswer_of_row (step_row h) ho hreq

/-! ## The parameters (R43) -/

/-- No row of the transition table writes the parameters. -/
theorem cfg_of_row {s t : State} (h : StepRow s t) : t.cfg = s.cfg := by
  cases h with
  | taken w rest => exact dispatched_cfg w _
  | checksumWrong | flagClear | readingDone => simp [decoded]
  | _ => rfl

/-- A host command run in any state is dispatched, or is not taken and changes nothing (R21, R77). -/
theorem exec_command_next {w : CmdWord} {s t : State} (h : exec (decodeCommand w) s = .next t) :
    t = s ∨ t = dispatched w s := by
  by_cases hq : s.seq = .idle
  · rw [exec_command_idle hq] at h
    cases h
    exact .inr rfl
  · have hw : ∀ w, (commandWord (decodeCommand w)).isSome = true := by decide
    rw [exec_command_busy hq (hw w)] at h
    cases h
    exact .inl rfl

theorem cfg_of_command (w : CmdWord) {s t : State} (h : exec (decodeCommand w) s = .next t) : t.cfg = s.cfg := by
  rcases exec_command_next h with rfl | rfl
  · rfl
  · exact dispatched_cfg w s

/-- A row that is the step of its own states, and changes nothing in the others, leaves the parameters. -/
theorem cfg_of_transaction {i : Instr} {here : Prop} {s t : State} (hin : here → step s = exec i s)
    (hout : ¬ here → exec i s = .next s) (h : exec i s = .next t) : t.cfg = s.cfg := by
  by_cases hq : here
  · exact cfg_of_row (step_row ((hin hq).trans h))
  · rw [hout hq] at h
    cases h
    rfl

/-- Commands are dispatched, transactions are steps of their states, STATUS issues, a unit writes its output. -/
theorem cfg_of_exec {i : Instr} {s t : State} (h : exec i s = .next t) : t.cfg = s.cfg := by
  obtain ⟨-, hstep, -, -⟩ := stepRunsSelectedInstruction
  obtain ⟨-, hReset, hCal, hMeas, hFetch, hQuery⟩ := hstep s
  obtain ⟨hReset', hCal', hMeas', hFetch', hQuery'⟩ := frameOnlyInItsState s
  cases i with
  | reserved0 => exact cfg_of_command 0 h
  | init => exact cfg_of_command 1 h
  | reset => exact cfg_of_command 2 h
  | calibrate => exact cfg_of_command 3 h
  | read => exact cfg_of_command 4 h
  | drop => exact cfg_of_command 5 h
  | reserved6 => exact cfg_of_command 6 h
  | reserved7 => exact cfg_of_command 7 h
  | softReset => exact cfg_of_transaction hReset hReset' h
  | calTrigger => exact cfg_of_transaction hCal hCal' h
  | measTrigger => exact cfg_of_transaction hMeas hMeas' h
  | payloadRead => exact cfg_of_transaction hFetch hFetch' h
  | statusq =>
    refine cfg_of_transaction hQuery (fun hq => ?_) h
    obtain ⟨h1, h2, h3⟩ : s.seq ≠ .cPoll ∧ s.seq ≠ .cCheck ∧ s.seq ≠ .mPoll := by simpa only [not_or] using hq
    exact (hQuery' h1 h2 h3).2
  | status =>
    rw [exec_status] at h
    split at h <;> cases h <;> rfl
  | statusDecode | crc8 | unpackH | unpackT | convRh | convT => cases h; rfl

/-- Settles O47: every instruction, and every row of the transition table. -/
theorem parametersConstant : Obligations.ParametersConstant :=
  ⟨fun _ _ _ => cfg_of_exec, fun _ _ h => cfg_of_row (step_row h)⟩

/-! ## No stop under the invariant (R36, R112) -/

/-- A transaction whose continuation never stops, on either answer, never stops. -/
theorem exists_transact_next {r : Request} {k : BusResponse → State → Outcome} {s : State}
    (hk : ∀ a rest, ∃ t, k a (takeBusAnswer rest s) = .next t) :
    ∃ t, transact r (fun a => onAnswer a (k a)) s = .next t := by
  cases ho : s.outstanding with
  | none => exact ⟨_, transact_issues ho⟩
  | some q =>
    cases hb : s.env.bus with
    | nil => exact ⟨_, transact_waits ho hb⟩
    | cons a rest =>
      simp only [transact_answered ho hb, onAnswer]
      split
      · exact hk a rest
      · exact ⟨_, rfl⟩

/-- A sleep whose continuation never stops never stops. -/
theorem exists_sleepFor_next {ms : Millis} {k : State → Outcome} {s : State}
    (hk : ∀ n, ∃ t, k (takeSleepAnswer n s) = .next t) : ∃ t, sleepFor ms k s = .next t := by
  cases ho : s.outstanding with
  | none => exact ⟨_, sleepFor_issues ho⟩
  | some q =>
    cases hz : s.env.sleeps with
    | zero => exact ⟨_, sleepFor_waits ho hz⟩
    | succ n => rw [sleepFor_answered ho hz]; exact hk n

/-- After the reset's sleep RESET and INIT have a row (R112). -/
theorem exists_resetSlept_next {s : State} (hc : s.cmdr = 1 ∨ s.cmdr = 2) : ∃ t, resetSlept s = .next t := by
  unfold resetSlept
  rcases hc with hc | hc <;> rw [hc] <;> exact ⟨_, rfl⟩

/-- A passed check has a row for INIT and for CALIBRATE (R112). -/
theorem exists_calCheckTest_next {s : State} (hc : s.cmdr = 1 ∨ s.cmdr = 3) : ∃ t, calCheckTest s = .next t := by
  unfold calCheckTest
  split
  · rcases hc with hc | hc <;> rw [hc] <;> exact ⟨_, rfl⟩
  · exact ⟨_, rfl⟩

/-- Of the callers of the status query only C_CHECK can stop. -/
theorem exists_callerTest_next {s : State} (hc : s.seq = .cCheck → s.cmdr = 1 ∨ s.cmdr = 3) :
    ∃ t, callerTest s = .next t := by
  cases hq : s.seq with
  | cCheck => simpa only [callerTest, hq] using exists_calCheckTest_next (hc hq)
  | _ => simp [callerTest, hq]

/-- A pending response is delivered or waits. -/
theorem exists_respondStep_next {s : State} (hr : s.res.isSome = true) : ∃ t, respondStep s = .next t := by
  obtain ⟨r, hr⟩ := Option.isSome_iff_exists.mp hr
  unfold respondStep
  simp only [hr]
  split <;> exact ⟨_, rfl⟩

/-- Settles O51, state by state: the invariant gives the command in R_SLEEP and C_CHECK, and the result in RESPOND. -/
theorem invariantNeverStops : Obligations.InvariantNeverStops := by
  intro s hi
  cases hq : s.seq with
  | idle =>
    cases hc : s.env.cmds with
    | nil => exact ⟨_, step_idle_empty hq hc⟩
    | cons w rest => exact ⟨_, step_taken hq hc⟩
  | rWrite => rw [step_rWrite hq]; exact exists_transact_next fun _ _ => ⟨_, rfl⟩
  | cWrite => rw [step_cWrite hq]; exact exists_transact_next fun _ _ => ⟨_, rfl⟩
  | mWrite => rw [step_mWrite hq]; exact exists_transact_next fun _ _ => ⟨_, rfl⟩
  | mFetch => rw [step_mFetch hq]; exact exists_transact_next fun _ _ => ⟨_, rfl⟩
  | cPoll | cCheck | mPoll =>
    rw [step_query (by simp [hq, SeqState.queriesStatus])]
    refine exists_transact_next fun a rest => exists_callerTest_next fun hs => ?_
    simpa [SeqState.usedBy] using hi.command_in (p := .cCheck) hs rfl
  | rSleep =>
    rw [step_rSleep hq]
    have hc : s.cmdr = 1 ∨ s.cmdr = 2 := by simpa [SeqState.usedBy] using hi.command_in hq rfl
    exact exists_sleepFor_next fun _ => exists_resetSlept_next hc
  | cSleep => rw [step_cSleep hq]; exact exists_sleepFor_next fun _ => ⟨_, rfl⟩
  | mSleep => rw [step_mSleep hq]; exact exists_sleepFor_next fun _ => ⟨_, rfl⟩
  | mDecode => exact ⟨_, step_mDecode hq⟩
  | respond => rw [step_respond hq]; exact exists_respondStep_next (hi.pending.mpr hq)

end Sys2Proof.Machine
end

section
/-! # The encoding family: command words, frames, programs, response words, status bits (R50 to R61)

The eight command words and the five frames are read back as the rows they are the codes of; what a reserved word is
answered and what the unread status bits leave unchanged are then single steps of the block. -/

namespace Sys2Proof.Machine

/-! ## Command words and frames -/

/-- Settles O3, row by row: a host command by its word, a frame by its unshared bytes, an internal row by having no
code. -/
theorem decodeEncodeAgree : Obligations.DecodeEncodeAgree := by
  intro i
  cases i with
  | reserved0 => exact Laws.EncodingRoundTrip.reserved0
  | init => exact Laws.EncodingRoundTrip.init
  | reset => exact Laws.EncodingRoundTrip.reset
  | calibrate => exact Laws.EncodingRoundTrip.calibrate
  | read => exact Laws.EncodingRoundTrip.read
  | drop => exact Laws.EncodingRoundTrip.drop
  | reserved6 => exact Laws.EncodingRoundTrip.reserved6
  | reserved7 => exact Laws.EncodingRoundTrip.reserved7
  | status => exact Laws.EncodingRoundTrip.status
  | softReset => exact Laws.EncodingRoundTrip.softReset
  | calTrigger => exact Laws.EncodingRoundTrip.calTrigger
  | measTrigger => exact Laws.EncodingRoundTrip.measTrigger
  | payloadRead => exact Laws.EncodingRoundTrip.payloadRead
  | statusq => exact Laws.EncodingRoundTrip.statusq
  | statusDecode src => exact Laws.EncodingRoundTrip.statusDecode src
  | crc8 => exact Laws.EncodingRoundTrip.crc8
  | unpackH => exact Laws.EncodingRoundTrip.unpackH
  | unpackT => exact Laws.EncodingRoundTrip.unpackT
  | convRh => exact Laws.EncodingRoundTrip.convRh
  | convT => exact Laws.EncodingRoundTrip.convT

/-- The word of the row the decoder selects is the word decoded (R50). -/
theorem commandWord_decodeCommand : ∀ w, commandWord (decodeCommand w) = some w := by decide

/-- A word selects exactly the row whose word it is (R50). -/
theorem decodeCommand_eq_iff (w : CmdWord) (i : Instr) : decodeCommand w = i ↔ commandWord i = some w := by
  constructor
  · rintro rfl
    exact commandWord_decodeCommand w
  · intro h
    cases i <;> cases h <;> rfl

/-- Settles O1: the eight entries compute, and the two directions are `decodeCommand_eq_iff`. -/
theorem commandWordTable : Obligations.CommandWordTable :=
  ⟨rfl, rfl, rfl, rfl, rfl, rfl, rfl, rfl, decodeCommand_eq_iff⟩

theorem encode_eq_command_iff {p : Parameters} {i : Instr} {w : CmdWord} :
    encode p i = some (.command w) ↔ commandWord i = some w := by
  cases h : commandWord i <;> simp [encode, h]

/-- Only the five frames have bytes (R54, R61). -/
theorem mem_frameInstrs_of_encode {p : Parameters} {i : Instr} {b : List Byte}
    (h : encode p i = some (.frame b)) : i ∈ frameInstrs := by
  cases i with
  | status | softReset | calTrigger | measTrigger | payloadRead => decide
  | reserved0 | init | reset | calibrate | read | drop | reserved6 | reserved7 => cases h
  | statusq | statusDecode | crc8 | unpackH | unpackT | convRh | convT => cases h

/-- Reading a frame is searching the five rows for one with these bytes, in their order (R54). -/
theorem decodeFrame_eq_find (p : Parameters) (b : List Byte) : decodeFrame p b =
    match frameInstrs.find? fun i => encode p i = some (.frame b) with
    | some i => .ok i
    | none => .error .unknownFrame := by
  have hstatus : (BusString.b1 cmdStatus).bytes = [cmdStatus] := rfl
  simp only [decodeFrame, frameInstrs, List.find?_cons, List.find?_nil, encode, commandWord, frameString,
    Option.map_some, Option.some.injEq, Code.frame.injEq, hstatus, eq_comm (b := b)]
  split_ifs <;> subst_vars <;> simp only [*, decide_true, decide_false]

theorem encode_of_decodeFrame_ok {p : Parameters} {b : List Byte} {i : Instr} (h : decodeFrame p b = .ok i) :
    encode p i = some (.frame b) := by
  rw [decodeFrame_eq_find] at h
  split at h
  next j hj => cases h; simpa using List.find?_some hj
  next => cases h

theorem encode_ne_of_decodeFrame_error {p : Parameters} {b : List Byte} {e : Reject}
    (h : decodeFrame p b = .error e) (i : Instr) : encode p i ≠ some (.frame b) := by
  rw [decodeFrame_eq_find] at h
  split at h
  next => cases h
  next hnone =>
    intro hi
    simpa [hi] using List.find?_eq_none.mp hnone i (mem_frameInstrs_of_encode hi)

/-- Settles O4: every command word is accepted and is its row's word; a frame is found among the five rows or is the
bytes of none. -/
theorem encodeDecodeAgree : Obligations.EncodeDecodeAgree := by
  intro p c
  cases c with
  | command w =>
    refine ⟨fun i h => ?_, fun e h => by cases h⟩
    cases h
    exact encode_eq_command_iff.mpr (commandWord_decodeCommand w)
  | frame b => exact ⟨fun i => encode_of_decodeFrame_ok, fun e => encode_ne_of_decodeFrame_error⟩

/-- Settles O2: the bytes are those of `frameString`, and the two table words compute. -/
theorem frameByteTable : Obligations.FrameByteTable :=
  ⟨fun _ => rfl, fun _ => rfl, fun _ => rfl, fun _ => rfl, fun _ => rfl, by decide, by decide⟩

/-! ## The assembler (R52) -/

/-- A program that assembles is a line that does and a program that does. -/
theorem assemble_cons_eq_some {l : String} {ls : List String} {ws : List CmdWord} :
    assemble (l :: ls) = some ws ↔ ∃ w us, assembleLine l = some w ∧ assemble ls = some us ∧ ws = w :: us := by
  cases hl : assembleLine l <;> cases hs : assemble ls <;> simp [assemble, hl, hs, eq_comm]

/-- Programs assemble part by part. -/
theorem assemble_append {a b : List String} {u v : List CmdWord} (ha : assemble a = some u)
    (hb : assemble b = some v) : assemble (a ++ b) = some (u ++ v) := by
  induction a generalizing u with
  | nil => cases ha; exact hb
  | cons l ls ih =>
    obtain ⟨w, us, hl, hs, rfl⟩ := assemble_cons_eq_some.mp ha
    exact assemble_cons_eq_some.mpr ⟨w, us ++ v, hl, ih hs, rfl⟩

/-- Settles O5: the five mnemonics compute; the parts by induction on the first program's lines. -/
theorem assemblerLineByLine : Obligations.AssemblerLineByLine :=
  ⟨by decide, fun _ _ _ _ => assemble_append⟩

/-! ## Responses and reserved words (R51, R60) -/

/-- Code 7 is no result's (R60). -/
theorem code_ne_seven (r : Result) : r.code ≠ 7 := by
  cases r with
  | ok => decide
  | okReading => exact (by decide : (0 : BitVec 3) ≠ 7)
  | err k => cases k <;> simp [Result.code]

/-- Settles O38: each entry as `Response.ofResult` has it, and code 7 in none. -/
theorem responseWord : Obligations.ResponseWord :=
  ⟨rfl, fun _ => rfl, fun _ => rfl, rfl, rfl, rfl, rfl, rfl, code_ne_seven⟩

/-- A pending result that the host takes is delivered, and the block is back in IDLE (R112, R184). -/
theorem step_responded {s : State} {r : Result} {n : Nat} (hq : s.seq = .respond) (hr : s.res = some r)
    (hn : s.env.takes = n + 1) : step s = .next (returnToIdle (deliver r n s)) := by
  simp [step_respond hq, respondStep, hr, hn]

/-- The dispatch of a word that is no command (R51). -/
theorem dispatched_reserved {w : CmdWord} (hw : w = 0 ∨ w = 6 ∨ w = 7) (s : State) :
    dispatched w s = failWith .badCommand (latchCommand w s) := by
  rcases hw with rfl | rfl | rfl <;> rfl

/-- Settles O9: the word is dispatched to the abort, and the pending result is delivered. -/
theorem reservedWordAnswered : Obligations.ReservedWordAnswered := by
  refine ⟨rfl, rfl, rfl, fun s w rest n hw hq hc hn => ?_⟩
  have h1 := step_taken hq hc
  rw [dispatched_reserved hw] at h1
  exact ⟨_, _, h1, step_responded rfl rfl hn, rfl, rfl, rfl, rfl, rfl, rfl, rfl, rfl, rfl, rfl⟩

/-! ## The status bits that nothing reads (R57) -/

/-- The callers' tests read two of the decoder's fields, CMDR and TRIES; an observer sees no more of them (R57). -/
theorem observe_callerTest {u v : State} (ho : u.observe = v.observe) (hc : u.cmdr = v.cmdr)
    (ht : u.tries = v.tries) (hb : u.dp.status.busy = v.dp.status.busy)
    (he : u.dp.status.calEn = v.dp.status.calEn) :
    observeOutcome (callerTest u) = observeOutcome (callerTest v) := by
  have hf := observe_eq_iff.mp ho
  have hq := hf.2.1
  unfold callerTest
  rw [← hq]
  split
  case h_1 =>
    simp only [calPollTest, ← hb, ← ht]
    split_ifs <;> simp [observeOutcome, observe_eq_iff, hf]
  case h_2 =>
    simp only [calCheckTest, ← he, ← hc]
    split_ifs <;> simp [observeOutcome, observe_eq_iff, hf]
  case h_3 =>
    simp only [measPollTest, ← hb, ← ht]
    split_ifs <;> simp [observeOutcome, observe_eq_iff, hf]
  all_goals exact congrArg Sum.inl ho

/-- The step that takes an accepted answer to a status query is the caller's test of its byte (R80, R112). -/
theorem step_queryAnswered {s : State} {a : BusResponse} {rest : List BusResponse}
    (hq : s.seq.queriesStatus = true) (ho : s.outstanding ≠ none) (hb : s.env.bus = a :: rest) (ha : a.ok = true) :
    step s = callerTest (afterQuery a rest s) := by
  obtain ⟨r, hr⟩ := Option.ne_none_iff_exists'.mp ho
  rw [step_query hq, transact_answered hr hb, statusAnswered, onAnswer, if_pos ha]
  rfl

/-- On a payload with the right checksum an observer sees only what bit 3 of `PAY[0]` decides: the reading, or
Uncalibrated (R109, R110). -/
theorem observe_decodeStage_accepted {s : State} (hc : crc8 s.pay.covered = s.pay.b6) :
    (decodeStage s).observe = (finish (if s.pay.b0.getLsbD 3 then .okReading (decoded s).dp.reading
      else .err .uncalibrated) s).observe := by
  rw [decodeStage_eq, if_neg (not_not.mpr hc)]
  split_ifs <;> simp [observe_eq_iff, decoded]

/-- Settles O21: the callers' tests read bits 7 and 3 of the byte; the decode stage reads bit 3 of `PAY[0]` and the
sample bytes. -/
theorem unreadStatusBitsIgnored : Obligations.UnreadStatusBitsIgnored := by
  refine ⟨fun s a b rest hs ho ha hb h7 h3 => ?_, fun s x c hq hx hcrc hc => ?_⟩
  · have hq := queriesStatus_iff.mpr hs
    rw [step_queryAnswered (by exact hq) (by exact ho) rfl ha, step_queryAnswered (by exact hq) (by exact ho) rfl hb]
    exact observe_callerTest rfl rfl rfl h7 h3
  · rw [step_mDecode hq, step_mDecode (by exact hq)]
    refine congrArg Sum.inl ?_
    rw [observe_decodeStage_accepted hcrc, observe_decodeStage_accepted (by exact hc.symm), ← hx]
    simp [observe_eq_iff, decoded, Datapath.reading, unpackHum, unpackTemp]

end Sys2Proof.Machine
end

section
/-! # The sequencer carries out the pseudocode (R70, R90, R95)

`Follows` ties a state of the block to a part of the pseudocode. There is one rule for each way a part is made (a
transaction, a sleep, one part after another), and a part of a command is then followed by applying them in its order. -/

namespace Sys2Proof.Reference

open Sys2Proof.Machine

/-! ## What it means that the block follows a part -/

/-- The block runs the command `w` with parameters `p` and HANDLE `h`, in the sequencer state `q`, nothing in flight. -/
structure At (p : Parameters) (w : CmdWord) (h : Bool) (q : SeqState) (s : State) : Prop where
  cfg : s.cfg = p
  cmdr : s.cmdr = w
  handle : s.handle = h
  seq : s.seq = q
  outstanding : s.outstanding = none

/-- The command has ended with `r`, which waits for the host. -/
structure Ended (h : Bool) (r : Result) (s : State) : Prop where
  handle : s.handle = h
  seq : s.seq = .respond
  outstanding : s.outstanding = none
  res : s.res = some r

/-- The run from `s` reaches `t` having caused the events `es`, the answers `rest` being left. -/
structure Causes (s : State) (es : List Event) (rest : List BusResponse) (t : State) : Prop where
  reaches : Reaches s t
  trace : t.trace = s.trace ++ es
  env : t.env = { s.env with bus := rest, sleeps := s.env.sleeps - sleepCount es }

/-- Where the block stands when a part has ended: where `exit` says, or in RESPOND with the failure and HANDLE `h`. Of
a part that waits for an answer nothing is said. -/
def Lands {α : Type} (h : Bool) (exit : α → State → Prop) : Ending α → State → Prop
  | .done a, t => exit a t
  | .failed k, t => Ended h (.err k) t
  | .waits, _ => True

/-- From `s` the block follows the part: when its sleeps are answered, it causes its events and lands at its end. -/
def Follows {α : Type} (h : Bool) (s : State) (part : Part α) (exit : α → State → Prop) : Prop :=
  sleepCount part.events ≤ s.env.sleeps →
    ∃ t, Causes s part.events part.rest t ∧ Lands h exit part.ending t

/-- The outcome of an answered request: a next state with `P`, no event caused and no input consumed since `u`. -/
def Continues (o : Outcome) (u : State) (P : State → Prop) : Prop :=
  ∃ t, o = .next t ∧ t.trace = u.trace ∧ t.env = u.env ∧ P t

/-! ## The parts -/

@[simp] theorem sleepCount_nil : sleepCount [] = 0 := rfl

@[simp] theorem sleepCount_append (es fs : List Event) : sleepCount (es ++ fs) = sleepCount es + sleepCount fs :=
  List.countP_append

section
variable {α β : Type} {part : Part α} {k : α → List BusResponse → Part β}

theorem Part.andThen_of_done {a : α} (h : part.ending = .done a) : part.andThen k =
    ⟨part.events ++ (k a part.rest).events, (k a part.rest).ending, (k a part.rest).rest⟩ := by simp [Part.andThen, h]

theorem Part.andThen_of_failed {e : ErrKind} (h : part.ending = .failed e) :
    part.andThen k = ⟨part.events, .failed e, part.rest⟩ := by simp [Part.andThen, h]

theorem Part.andThen_of_waits (h : part.ending = .waits) : part.andThen k = ⟨part.events, .waits, part.rest⟩ := by
  simp [Part.andThen, h]

end

/-- STATUSQ, then the rest of a part on its byte: one transaction (R80). -/
theorem statusQuery_andThen {α : Type} (answers : List BusResponse) (k : Byte → List BusResponse → Part α) :
    (statusQuery answers).andThen k =
      (transaction reqStatus answers).andThen fun a rest => k (a.byteAt 0) rest := by
  cases answers with
  | nil => rfl
  | cons a rest => cases ha : a.ok <;> simp [statusQuery, transaction, Part.andThen, done, ha]

/-! ## Runs -/

theorem Causes.refl (s : State) : Causes s [] s.env.bus s := ⟨.refl, by simp, by simp⟩

theorem Causes.trans {s t u : State} {es fs : List Event} {rest rest' : List BusResponse} (h : Causes s es rest t)
    (h' : Causes t fs rest' u) : Causes s (es ++ fs) rest' u where
  reaches := h.reaches.trans h'.reaches
  trace := by rw [h'.trace, h.trace, List.append_assoc]
  env := by rw [h'.env, h.env, sleepCount_append, Nat.sub_sub]

/-! ## One rule for each way a part is made -/

section
variable {α β : Type} {p : Parameters} {w : CmdWord} {h : Bool} {q : SeqState} {s : State}

theorem follows_done {a : α} {exit : α → State → Prop} (hx : exit a s) : Follows h s (done a s.env.bus) exit :=
  fun _ => ⟨s, .refl s, hx⟩

theorem follows_failed {k : ErrKind} {exit : α → State → Prop} (hx : Ended h (.err k) s) :
    Follows h s (failed k s.env.bus) exit :=
  fun _ => ⟨s, .refl s, hx⟩

/-- One part after another: the second starts where the first has landed. -/
theorem Follows.andThen {part : Part α} {k : α → List BusResponse → Part β} {exit : α → State → Prop}
    {exit' : β → State → Prop} (hp : Follows h s part exit)
    (hk : ∀ a t, exit a t → Follows h t (k a t.env.bus) exit') :
    Follows h s (part.andThen k) exit' := by
  intro hz
  cases he : part.ending with
  | done a =>
    simp only [Part.andThen_of_done he, sleepCount_append] at hz ⊢
    obtain ⟨t, ht, hx⟩ := hp (by omega)
    rw [he] at hx
    have hbus : t.env.bus = part.rest := by rw [ht.env]
    have hsleeps : t.env.sleeps = s.env.sleeps - sleepCount part.events := by rw [ht.env]
    obtain ⟨u, hu, hx'⟩ := hk a t hx (by rw [hbus]; omega)
    rw [hbus] at hu hx'
    exact ⟨u, ht.trans hu, hx'⟩
  | failed e =>
    rw [Part.andThen_of_failed he] at hz ⊢
    obtain ⟨t, ht, hx⟩ := hp hz
    rw [he] at hx
    exact ⟨t, ht, hx⟩
  | waits =>
    rw [Part.andThen_of_waits he] at hz ⊢
    obtain ⟨t, ht, -⟩ := hp hz
    exact ⟨t, ht, trivial⟩

/-- A transaction and what its answer leads to: an error fails the command, an `ok` goes on as `K` says (R31, R112). -/
theorem follows_transaction {r : Request} {K : BusResponse → State → Outcome}
    {k : BusResponse → List BusResponse → Part α} {exit : α → State → Prop} (hs : At p w h q s)
    (hr : sleepCount [r.event] = 0)
    (hstep : ∀ u, u.seq = q → u.cfg = p → step u = transact r (fun a => onAnswer a (K a)) u)
    (hK : ∀ a u, At p w h q u → u.tries = s.tries →
      Continues (K a u) u fun t => Follows h t (k a t.env.bus) exit) :
    Follows h s ((transaction r s.env.bus).andThen k) exit := by
  have hi : StepsTo s (issue r s) := (hstep s hs.seq hs.cfg).trans (transact_issues hs.outstanding)
  cases hb : s.env.bus with
  | nil => exact fun _ => ⟨issue r s, ⟨.single hi, rfl, by simp [transaction, Part.andThen, hr, ← hb]⟩, trivial⟩
  | cons a rest =>
    have ha : step (issue r s) = onAnswer a (K a) (takeBusAnswer rest (issue r s)) :=
      (hstep (issue r s) hs.seq hs.cfg).trans (transact_answered (q := r) rfl hb)
    cases hok : a.ok with
    | false =>
      have hend : (transaction r (a :: rest)).ending = .failed (.bus a.err) := by simp [transaction, hok]
      rw [onAnswer, hok, if_neg Bool.false_ne_true] at ha
      rw [Part.andThen_of_failed hend]
      exact fun _ => ⟨_, ⟨.tail (.single hi) ha, rfl, by simp [transaction, hr]⟩, ⟨hs.handle, rfl, rfl, rfl⟩⟩
    | true =>
      have hend : (transaction r (a :: rest)).ending = .done a := by simp [transaction, hok]
      rw [onAnswer, if_pos hok] at ha
      rw [Part.andThen_of_done hend]
      obtain ⟨t, ht, htr, henv, hf⟩ :=
        hK a (takeBusAnswer rest (issue r s)) ⟨hs.cfg, hs.cmdr, hs.handle, hs.seq, rfl⟩ rfl
      have hct : Causes s [r.event] rest t := ⟨.tail (.single hi) (ha.trans ht), htr, by simp [henv, hr]⟩
      have hbus : t.env.bus = rest := by rw [henv]; rfl
      have hsleeps : t.env.sleeps = s.env.sleeps := by rw [henv]; rfl
      rw [hbus] at hf
      intro hz
      have hz' : sleepCount ([r.event] ++ (k a rest).events) ≤ s.env.sleeps := hz
      rw [sleepCount_append, hr, Nat.zero_add, ← hsleeps] at hz'
      obtain ⟨v, hv, hl⟩ := hf hz'
      exact ⟨v, hct.trans hv, hl⟩

/-- A sleep, which cannot fail, and what its end leads to (R6, R112). -/
theorem follows_sleep {ms : Millis} {K : State → Outcome} {exit : Unit → State → Prop} (hs : At p w h q s)
    (hstep : ∀ u, u.seq = q → step u = sleepFor ms K u)
    (hK : ∀ u, At p w h q u → u.tries = s.tries → Continues (K u) u (exit ())) :
    Follows h s (sleep ms s.env.bus) exit := by
  intro hz
  obtain ⟨n, hn⟩ : ∃ n, s.env.sleeps = n + 1 := Nat.exists_eq_add_one.mpr hz
  have hi : StepsTo s (issue (.delay ms) s) := (hstep s hs.seq).trans (sleepFor_issues hs.outstanding)
  have ha : step (issue (.delay ms) s) = K (takeSleepAnswer n (issue (.delay ms) s)) :=
    (hstep (issue (.delay ms) s) hs.seq).trans (sleepFor_answered (q := .delay ms) rfl hn)
  obtain ⟨t, ht, htr, henv, hx⟩ :=
    hK (takeSleepAnswer n (issue (.delay ms) s)) ⟨hs.cfg, hs.cmdr, hs.handle, hs.seq, rfl⟩ rfl
  have hone : s.env.sleeps - sleepCount [.sleep ms] = n := by rw [hn]; rfl
  exact ⟨t, ⟨.tail (.single hi) (ha.trans ht), htr, by simp [henv, sleep, hone]⟩, hx⟩

end

/-! ## The parts of the commands -/

section
variable {p : Parameters} {w : CmdWord} {h : Bool} {q : SeqState} {s : State}

/-- What the busy loops of CALIBRATE and READ have in common: the state `q` that queries, the state `qs` that sleeps
between two queries, the state `qx` after the loop, and the failure `k` when the budget is used up (R95, R105). -/
structure PollLoop (k : ErrKind) (q qs qx : SeqState) : Prop where
  queries : q.queriesStatus = true
  test : ∀ u, u.seq = q → callerTest u = .next
    (if u.dp.status.busy then if u.tries = 0 then failWith k u else goto qs u else goto qx u)
  sleeps : ∀ u, u.seq = qs → step u = sleepFor pollDelayMs (pollSlept q) u

theorem calibrationLoop : PollLoop .uncalibrated .cPoll .cSleep .cCheck where
  queries := rfl
  test u hq := by simp only [callerTest, hq]; rfl
  sleeps _ := step_cSleep

/-- A status query: its byte is latched and decoded, and the caller tests it (R80). -/
theorem follows_statusQuery {α : Type} {k : Byte → List BusResponse → Part α} {exit : α → State → Prop}
    (hs : At p w h q s) (hq : q.queriesStatus = true)
    (hK : ∀ u, At p w h q u → u.tries = s.tries → u.dp.status = decodeStatus u.st →
      Continues (callerTest u) u fun t => Follows h t (k u.st t.env.bus) exit) :
    Follows h s ((statusQuery s.env.bus).andThen k) exit := by
  rw [statusQuery_andThen]
  exact follows_transaction hs rfl (fun u hu _ => step_query (by rw [hu, hq])) fun a u hu ht =>
    hK (runStatusDecode .st (latchStatus (a.byteAt 0) u)) ⟨hu.cfg, hu.cmdr, hu.handle, hu.seq, hu.outstanding⟩ ht rfl

theorem At.goto {u : State} (hu : At p w h q u) (q' : SeqState) : At p w h q' (goto q' u) :=
  ⟨hu.cfg, hu.cmdr, hu.handle, rfl, hu.outstanding⟩

theorem At.finish {u : State} (hu : At p w h q u) (r : Result) : Ended h r (finish r u) :=
  ⟨hu.handle, rfl, hu.outstanding, rfl⟩

/-- The sleep between two queries, after which the budget is one less (R15, R95, R105). -/
theorem follows_pollSleep {k : ErrKind} {qs qx : SeqState} (L : PollLoop k q qs qx) {n : Nat} {s : State}
    (hs : At p w h qs s) (hn : s.tries.toNat = n + 1) :
    Follows h s (sleep pollDelayMs s.env.bus) fun _ t => At p w h q t ∧ t.tries.toNat = n :=
  follows_sleep hs L.sleeps fun u hu ht => by
    have hcount := countDown_tries_toNat (s := u) (by rw [ht]; omega)
    exact ⟨Machine.goto q (countDown u), rfl, rfl, rfl, ⟨hu.cfg, hu.cmdr, hu.handle, rfl, hu.outstanding⟩,
      Nat.succ.inj (hcount.trans ((congrArg BitVec.toNat ht).trans hn))⟩

/-- The busy test of a poll loop: it goes on to `more` while the byte is busy, and leaves the loop when it is not. -/
theorem PollLoop.continues_test {k : ErrKind} {qs qx : SeqState} (L : PollLoop k q qs qx) {u : State}
    {more : State → Part Unit} (hu : At p w h q u) (hd : u.dp.status = decodeStatus u.st)
    (hempty : u.tries = 0 → Follows h (failWith k u) (more (failWith k u)) fun _ => At p w h qx)
    (hsleep : u.tries ≠ 0 → Follows h (goto qs u) (more (goto qs u)) fun _ => At p w h qx) :
    Continues (callerTest u) u fun t =>
      Follows h t (if u.st.getLsbD 7 then more t else done () t.env.bus) fun _ => At p w h qx := by
  have hbusy : u.dp.status.busy = u.st.getLsbD 7 := by rw [hd]; rfl
  rw [L.test u hu.seq, hbusy]
  cases u.st.getLsbD 7 with
  | false => exact ⟨goto qx u, rfl, rfl, rfl, follows_done (hu.goto qx)⟩
  | true =>
    by_cases ht : u.tries = 0
    · exact ⟨failWith k u, by simp only [if_pos ht, if_true], rfl, rfl, hempty ht⟩
    · exact ⟨goto qs u, by simp only [if_neg ht, if_true], rfl, rfl, hsleep ht⟩

/-- The poll loop, by induction on the budget left, which is TRIES. -/
theorem follows_pollLoop {k : ErrKind} {qs qx : SeqState} (L : PollLoop k q qs qx) (n : Nat) {s : State}
    (hs : At p w h q s) (hn : s.tries.toNat = n) :
    Follows h s (pollLoop k n s.env.bus) fun _ => At p w h qx := by
  induction n generalizing s with
  | zero =>
    unfold pollLoop
    refine follows_statusQuery hs L.queries fun u hu ht hd => L.continues_test hu hd (fun _ => ?_) fun hne => ?_
    · exact follows_failed (hu.finish (.err k))
    · exact absurd (BitVec.eq_of_toNat_eq (by rw [ht, hn]; rfl)) hne
  | succ n ih =>
    unfold pollLoop
    refine follows_statusQuery hs L.queries fun u hu ht hd => L.continues_test hu hd (fun h0 => ?_) fun _ => ?_
    · simp [← ht, h0] at hn
    · exact (follows_pollSleep L (hu.goto qs) ((congrArg BitVec.toNat ht).trans hn)).andThen
        fun _ _ hx => ih hx.1 hx.2

/-- RESET after its gate, up to what follows the 20 ms: the end of RESET, or the calibration of INIT (R71, R90). -/
theorem follows_resetPart {exit : Unit → State → Prop} (hs : At p w h .rWrite s)
    (hx : ∀ u, At p w h .rSleep u → Continues (resetSlept u) u (exit ())) :
    Follows h s (resetPart p s.env.bus) exit :=
  follows_transaction (K := fun _ u => .next (goto .rSleep u)) hs rfl
    (fun _ hu hc => hc ▸ step_rWrite hu) fun _ _ hu _ =>
    ⟨_, rfl, rfl, rfl, follows_sleep (hu.goto .rSleep) (fun _ => step_rSleep) fun v hv _ => hx v hv⟩

/-- The check after the loop: it passes with HANDLE = 1, which INIT sets and CALIBRATE came with (R71, R97). -/
theorem follows_calibrationCheck (hs : At p w h .cCheck s) (hw : w = 1 ∨ w = 3 ∧ h = true) :
    Follows h s ((statusQuery s.env.bus).andThen fun x rest =>
      if x.getLsbD 3 then done () rest else failed .uncalibrated rest) fun _ => Ended true .ok := by
  refine follows_statusQuery hs rfl fun u hu _ hd => ?_
  have htest : callerTest u = calCheckTest u := by simp only [callerTest, hu.seq]
  have hcal : u.dp.status.calEn = u.st.getLsbD 3 := by rw [hd]; rfl
  rw [htest, calCheckTest, hcal, hu.cmdr]
  cases hb : u.st.getLsbD 3 with
  | false => exact ⟨_, rfl, rfl, rfl, follows_failed (hu.finish _)⟩
  | true =>
    rcases hw with rfl | ⟨rfl, rfl⟩
    · exact ⟨_, rfl, rfl, rfl, follows_done ⟨rfl, rfl, hu.outstanding, rfl⟩⟩
    · exact ⟨_, rfl, rfl, rfl, follows_done (hu.finish _)⟩

/-- CALIBRATE after its gate (R95 to R97). -/
theorem follows_calibratePart (hs : At p w h .cWrite s) (hw : w = 1 ∨ w = 3 ∧ h = true) :
    Follows h s (calibratePart p s.env.bus) fun _ => Ended true .ok :=
  follows_transaction (K := fun _ u => .next (goto .cPoll (loadTries calTries u))) hs rfl
    (fun _ hu hc => hc ▸ step_cWrite hu) fun _ u hu _ =>
    ⟨_, rfl, rfl, rfl, (follows_pollLoop calibrationLoop 10 (s := goto .cPoll (loadTries calTries u))
      ⟨hu.cfg, hu.cmdr, hu.handle, rfl, hu.outstanding⟩ rfl).andThen fun _ _ hx => follows_calibrationCheck hx hw⟩

/-- INIT: HANDLE stays 0 until the check has passed (R70, R71). -/
theorem follows_initPart (hs : At p 1 false .rWrite s) :
    Follows false s (initPart p s.env.bus) fun _ => Ended true .ok :=
  (follows_resetPart (exit := fun _ => At p 1 false .cWrite) hs fun u hu =>
    ⟨goto .cWrite u, by rw [resetSlept, if_pos hu.cmdr], rfl, rfl, hu.goto .cWrite⟩).andThen
    fun _ _ hx => follows_calibratePart hx (.inl rfl)

end

/-! ## From the port to the response -/

/-- A command whose part the block follows from its dispatch is carried out, with the HANDLE of its ending. -/
theorem carriesOut_of_follows {α : Type} {s u : State} {rest : List CmdWord} {part : Part α} {ok : α → Result}
    {result : Result} {h h' handle : Bool} (hu : step s = .next u) (htr : u.trace = s.trace)
    (henv : u.env = { s.env with cmds := rest }) (hf : Follows h u part fun a => Ended h' (ok a))
    (hr : resultOf ok part.ending = some result) (hz : sleepCount part.events ≤ s.env.sleeps)
    (hk : 1 ≤ s.env.takes) (hdone : ∀ a, ok a = result → h' = handle) (hfail : ∀ k, .err k = result → h = handle) :
    CarriesOut s rest part result handle := by
  obtain ⟨t, ht, hl⟩ := hf (by rw [henv]; exact hz)
  have hend : Ended handle result t := by
    cases he : part.ending with
    | done a =>
      rw [he] at hr hl
      cases hr
      exact hdone a rfl ▸ hl
    | failed k =>
      rw [he] at hr hl
      cases hr
      exact hfail k rfl ▸ hl
    | waits => rw [he] at hr; cases hr
  obtain ⟨n, hn⟩ := Nat.exists_eq_add_one.mpr hk
  have hlast := step_responded hend.seq hend.res (n := n) (by rw [ht.env, henv]; exact hn)
  refine ⟨returnToIdle (deliver result n t), .tail (.head hu ht.reaches) hlast, rfl, hend.handle, hend.outstanding, rfl,
    ?_, ?_⟩
  · simp [ht.trace, htr]
  · simp [ht.env, henv, hn]

/-- Settles O57: INIT is dispatched to R_WRITE with HANDLE = 0, from where the block follows `initPart`. -/
theorem initCarriedOut : Obligations.InitCarriedOut := by
  intro s rest result hq ho hc hr hz hk
  refine carriesOut_of_follows (step_taken hq hc) (dispatched_trace ..) (dispatched_env ..)
    (follows_initPart ⟨rfl, rfl, rfl, rfl, ho⟩) hr hz hk ?_ ?_
  · rintro a rfl; rfl
  · rintro k rfl; rfl

end Sys2Proof.Reference
end

section
/-! # Acceptance: the eight command words in IDLE, and DROP through to its response (R75, R77)

The dispatch computes for every word but the three behind the gate on HANDLE, which have one rule for each of its
values. -/

namespace Sys2Proof.Machine

/-- A command behind the gate, with a handle: it goes on in the state that writes its frame (R77). -/
theorem exec_gated_open {i : Instr} {q : SeqState} {w : CmdWord} {s : State}
    (he : exec i s = .next (gate q (latchCommand w s))) (hh : s.handle = true) :
    exec i s = .next { s with cmdr := w, seq := q } := by
  rw [he, gate_open (by exact hh)]
  rfl

/-- A command behind the gate, without a handle: it is answered NoHandle (R77, R153). -/
theorem exec_gated_closed {i : Instr} {q : SeqState} {w : CmdWord} {s : State}
    (he : exec i s = .next (gate q (latchCommand w s))) (hh : s.handle = false) :
    exec i s = .next { s with cmdr := w, res := some (.err .noHandle), seq := .respond } := by
  rw [he, gate_closed (by exact hh)]
  rfl

/-- Settles O7: each word by its case of the dispatch, RESET, CALIBRATE and READ for both values of HANDLE. -/
theorem acceptanceDispatch : Obligations.AcceptanceDispatch := by
  intro s hq
  have hexec := exec_command_idle hq
  have hreset : exec .reset s = .next (gate .rWrite (latchCommand 2 s)) := hexec 2
  have hcalibrate : exec .calibrate s = .next (gate .cWrite (latchCommand 3 s)) := hexec 3
  have hread : exec .read s = .next (gate .mWrite (latchCommand 4 s)) := hexec 4
  exact ⟨hexec 1, hexec 5,
    fun hh => ⟨exec_gated_open hreset hh, exec_gated_open hcalibrate hh, exec_gated_open hread hh⟩,
    fun hh => ⟨exec_gated_closed hreset hh, exec_gated_closed hcalibrate hh, exec_gated_closed hread hh⟩,
    hexec 0, hexec 6, hexec 7⟩

/-- Settles O11: DROP is dispatched to RESPOND with the result Ok, which is then delivered. -/
theorem dropDestroysHandle : Obligations.DropDestroysHandle := by
  intro s rest n hq hc hn
  have hdrop := step_taken hq hc
  exact ⟨hdrop, _, _, hdrop, step_responded rfl rfl hn, rfl, rfl, rfl, rfl, rfl⟩

end Sys2Proof.Machine
end

section
/-! # The status family: the status query and the status decoder (R80, R83)

In the states that query the status STATUSQ is the block's step; its answer is either a failure or the caller's test of
the latched byte, and the test writes only SEQ, the pending result and HANDLE. -/

namespace Sys2Proof.Machine

/-! ## The status query (R80) -/

/-- In a state that queries the status a step is STATUSQ (R12, R32 row T4). -/
theorem exec_statusq_eq_step {s : State} (hq : s.seq.queriesStatus = true) : exec .statusq s = step s :=
  (inState_here hq).trans (step_query hq).symm

/-- A status query that the transport answers with an error fails with that error (R31, R80). -/
theorem step_queryFailed {s : State} {a : BusResponse} {rest : List BusResponse} (hq : s.seq.queriesStatus = true)
    (ho : s.outstanding ≠ none) (hb : s.env.bus = a :: rest) (ha : a.ok = false) :
    step s = .next (failWith (.bus a.err) (takeBusAnswer rest s)) := by
  obtain ⟨r, hr⟩ := Option.ne_none_iff_exists'.mp ho
  rw [step_query hq, transact_answered hr hb, statusAnswered, onAnswer, if_neg (ha ▸ Bool.false_ne_true)]

/-- What the test of a status byte writes: SEQ, the pending result and, for INIT, HANDLE (R71, R112). -/
theorem callerTest_frame {u t : State} (h : callerTest u = .next t) :
    t = { u with seq := t.seq, res := t.res, handle := t.handle } := by
  cases hq : u.seq with
  | cPoll =>
    obtain rfl : calPollTest u = t := by simpa [callerTest, hq] using h
    rcases calPollTest_cases u with ⟨-, h⟩ | ⟨-, -, h⟩ | ⟨-, -, h⟩ <;> rw [h] <;> rfl
  | mPoll =>
    obtain rfl : measPollTest u = t := by simpa [callerTest, hq] using h
    rcases measPollTest_cases u with ⟨-, h⟩ | ⟨-, -, h⟩ | ⟨-, -, h⟩ <;> rw [h] <;> rfl
  | cCheck =>
    simp only [callerTest, hq] at h
    rcases calCheckTest_next h with ⟨-, -, rfl⟩ | ⟨-, -, rfl⟩ | ⟨-, rfl⟩ <;> rfl
  | idle | rWrite | rSleep | cWrite | cSleep | mWrite | mSleep | mFetch | mDecode | respond =>
    obtain rfl : u = t := by simpa [callerTest, hq] using h
    rfl

/-- Settles O17: STATUSQ issues T4, fails with the transport's error, or goes on with the caller's test, which has a row
and whose frame is `callerTest_frame`. -/
theorem statusQueryRoundTrip : Obligations.StatusQueryRoundTrip := by
  intro s hs hc
  have hq := queriesStatus_iff.mpr hs
  rw [exec_statusq_eq_step hq]
  refine ⟨fun ho => (step_query hq).trans (transact_issues ho), fun r a rest hr hb => ?_⟩
  have ho : s.outstanding ≠ none := by simp [hr]
  refine ⟨fun ha => step_queryFailed hq ho hb ha, fun ha => ?_⟩
  obtain ⟨t, ht⟩ := exists_callerTest_next (s := afterQuery a rest s) hc
  exact ⟨t, (step_queryAnswered hq ho hb ha).trans ht, callerTest_frame ht⟩

/-! ## The status decoder (R83) -/

/-- A bit of a byte is its mask test: the mask `2 ^ i` leaves something of it exactly when bit `i` is set. -/
theorem getLsbD_iff_and_twoPow_ne_zero (b : Byte) {i : Nat} (hi : i < 8) :
    b.getLsbD i = true ↔ b &&& BitVec.twoPow 8 i ≠ 0 := by
  have hmask : BitVec.twoPow 8 i ≠ 0#8 := fun h => by simpa [hi] using congrArg (BitVec.getLsbD · i) h
  rw [BitVec.and_twoPow]
  cases b.getLsbD i <;> simp [hmask]

/-- Settles O22: the decoder writes its output and gives the seven fields by definition; `busy` and `cal_en` are bits 7
and 3, whose masks are 0x80 and 0x08. -/
theorem statusDecoded : Obligations.StatusDecoded :=
  ⟨fun _ => ⟨rfl, rfl⟩,
    fun b => ⟨rfl, rfl, rfl, rfl, rfl, rfl, rfl, getLsbD_iff_and_twoPow_ne_zero b (i := 7) (by decide),
      getLsbD_iff_and_twoPow_ne_zero b (i := 3) (by decide)⟩,
    rfl⟩

end Sys2Proof.Machine
end

section
/-! # RESET carries out its pseudocode (R90, R91)

RESET shares its part with INIT up to the 20 ms; after the sleep it has nothing left but its response. -/

namespace Sys2Proof.Machine

/-- A command behind the gate, offered to a block with a handle: it is taken and goes on in the state `q` (R77). -/
theorem step_gated_open {s : State} {w : CmdWord} {q : SeqState} {rest : List CmdWord}
    (hd : ∀ u, dispatched w u = gate q (latchCommand w u)) (hq : s.seq = .idle) (hc : s.env.cmds = w :: rest)
    (hh : s.handle = true) :
    step s = .next (goto q (latchCommand w { s with env := { s.env with cmds := rest } })) := by
  rw [step_taken hq hc, hd, gate_open (by exact hh)]

end Sys2Proof.Machine

namespace Sys2Proof.Reference

open Sys2Proof.Machine

/-- RESET behind its gate: the write, the 20 ms, the result Ok; HANDLE is as it was (R90). -/
theorem follows_reset {p : Parameters} {h : Bool} {s : State} (hs : At p 2 h .rWrite s) :
    Follows h s (resetPart p s.env.bus) fun _ => Ended h .ok :=
  follows_resetPart hs fun u hu =>
    have hslept : resetSlept u = .next (finish .ok u) := by simp [resetSlept, hu.cmdr]
    ⟨finish .ok u, hslept, rfl, rfl, hu.finish .ok⟩

/-- Settles O55: RESET with a handle is dispatched to R_WRITE, from where the block follows `resetPart`; HANDLE is 1
throughout. -/
theorem resetCarriedOut : Obligations.ResetCarriedOut := by
  intro s rest result hq ho hh hc hr hz hk
  have hstart := step_gated_open (q := .rWrite) (fun _ => rfl) hq hc hh
  exact carriesOut_of_follows hstart rfl rfl (follows_reset ⟨rfl, rfl, hh, rfl, ho⟩) hr hz hk
    (fun _ _ => rfl) fun _ _ => rfl

end Sys2Proof.Reference
end

section
/-! # The calibration family: the loop's busy test, the check, CALIBRATE and its budget (R95 to R99)

What a poll loop does is said for either loop: one lemma for the step that tests a byte, and its part on the answers of
a device that is busy for some queries. -/

namespace Sys2Proof.Machine

/-! ## The check after the loop (R97, R98) -/

/-- In C_CHECK an accepted answer is tested, whatever ST held (R98). -/
theorem exec_statusq_checked {s : State} {r : Request} {a : BusResponse} {rest : List BusResponse}
    (hq : s.seq = .cCheck) (ho : s.outstanding = some r) (hb : s.env.bus = a :: rest) (ha : a.ok = true) :
    exec .statusq s = calCheckTest (afterQuery a rest s) := by
  have hquery : s.seq.queriesStatus = true := by rw [hq]; rfl
  have htest : callerTest (afterQuery a rest s) = calCheckTest (afterQuery a rest s) := by
    rw [callerTest, show (afterQuery a rest s).seq = .cCheck from hq]
  rw [exec_statusq_eq_step hquery, step_queryAnswered hquery (by simp [ho]) hb ha, htest]

/-- Settles O19: with nothing in flight the query is issued; its answer is tested by bit 3 alone, and a passed test ends
as CMDR says. -/
theorem calibrationCheck : Obligations.CalibrationCheck := by
  refine ⟨fun s hq ho => inState_transact_issues (queriesStatus_iff.mpr (.inr (.inl hq))) ho, ?_⟩
  rintro s r a rest _ hq ho hb ha rfl
  have hflag : (afterQuery a rest s).dp.status.calEn = (a.rdata.extractLsb' 0 8).getLsbD 3 := rfl
  have hcmdr : (afterQuery a rest s).cmdr = s.cmdr := rfl
  rw [exec_statusq_checked hq ho hb ha, calCheckTest, hflag, hcmdr]
  refine ⟨fun h3 hc => ?_, fun h3 hc => ?_, fun h3 => ?_⟩
  · rw [if_pos h3, if_neg (by rw [hc]; decide), if_pos hc]; rfl
  · rw [if_pos h3, if_pos hc]; rfl
  · rw [h3]; rfl

end Sys2Proof.Machine

namespace Sys2Proof.Reference

open Sys2Proof.Machine

/-! ## The busy test of a poll loop (R95, R106) -/

/-- In the state that queries an accepted answer is tested: busy with a budget left sleeps, busy without one fails, and
not busy leaves the loop (R95, R105). -/
theorem PollLoop.exec_answered {k : ErrKind} {q qs qx : SeqState} (L : PollLoop k q qs qx) {s : State} {r : Request}
    {a : BusResponse} {rest : List BusResponse} (hq : s.seq = q) (ho : s.outstanding = some r)
    (hb : s.env.bus = a :: rest) (ha : a.ok = true) :
    exec .statusq s = .next (if (a.byteAt 0).getLsbD 7 then
      if s.tries = 0 then failWith k (afterQuery a rest s) else goto qs (afterQuery a rest s)
      else goto qx (afterQuery a rest s)) := by
  have hquery : s.seq.queriesStatus = true := by rw [hq]; exact L.queries
  rw [exec_statusq_eq_step hquery, step_queryAnswered hquery (by simp [ho]) hb ha]
  exact L.test _ hq

/-- Settles O18: the three ways of the busy test. -/
theorem calibrationPoll : Obligations.CalibrationPoll := by
  rintro s r a rest _ hq ho hb ha rfl
  have hbyte : a.byteAt 0 = a.rdata.extractLsb' 0 8 := rfl
  rw [calibrationLoop.exec_answered hq ho hb ha, hbyte]
  refine ⟨fun h7 => ?_, fun h7 ht => ?_, fun h7 ht => ?_⟩
  · rw [h7]; rfl
  · rw [h7, if_neg ht]; rfl
  · rw [h7, if_pos ht]; rfl

/-! ## CALIBRATE carries out its pseudocode (R95 to R97) -/

/-- Settles O56: CALIBRATE with a handle is dispatched to C_WRITE, from where the block follows `calibratePart`; HANDLE
is 1 throughout. -/
theorem calibrateCarriedOut : Obligations.CalibrateCarriedOut := by
  intro s rest result hq ho hh hc hr hz hk
  have hstart := step_gated_open (q := .cWrite) (fun _ => rfl) hq hc hh
  exact carriesOut_of_follows hstart rfl rfl (follows_calibratePart ⟨rfl, rfl, hh, rfl, ho⟩ (.inr ⟨rfl, rfl⟩)) hr hz hk
    (fun _ _ => rfl) fun _ _ => rfl

/-! ## The parts on accepted answers -/

/-- A part whose first events have already been caused. -/
def Part.prepend {α : Type} (es : List Event) (part : Part α) : Part α := ⟨es ++ part.events, part.ending, part.rest⟩

section
variable {α : Type} {a : BusResponse} {rest : List BusResponse}

/-- A transaction that succeeds has caused its event, and what follows it goes on with the answer (R6). -/
theorem transaction_andThen_of_ok {r : Request} {k : BusResponse → List BusResponse → Part α} (ha : a.ok = true) :
    (transaction r (a :: rest)).andThen k = (k a rest).prepend [r.event] :=
  Part.andThen_of_done (by simp [transaction, ha])

/-- A status query that succeeds goes on with the byte it returned (R80). -/
theorem statusQuery_andThen_of_ok {k : Byte → List BusResponse → Part α} (ha : a.ok = true) :
    (statusQuery (a :: rest)).andThen k = (k (a.byteAt 0) rest).prepend [reqStatus.event] := by
  rw [statusQuery_andThen, transaction_andThen_of_ok ha]

end

/-! ## The poll loop on a device that is busy at first (R95, R105) -/

@[simp] theorem millisOf_append (es fs : List Event) : millisOf (es ++ fs) = millisOf es + millisOf fs := by
  simp [millisOf]

/-- The events of `n` queries answered busy, each with its sleep. -/
def busyRounds : Nat → List Event
  | 0 => []
  | n + 1 => [reqStatus.event, .sleep pollDelayMs] ++ busyRounds n

@[simp] theorem length_busyRounds (n : Nat) : (busyRounds n).length = 2 * n := by
  induction n with
  | zero => rfl
  | succ n ih => rw [busyRounds, List.length_append, ih, Nat.mul_succ, Nat.add_comm]; rfl

@[simp] theorem sleepCount_busyRounds (n : Nat) : sleepCount (busyRounds n) = n := by
  induction n with
  | zero => rfl
  | succ n ih => rw [busyRounds, sleepCount_append, ih, Nat.add_comm]; rfl

@[simp] theorem millisOf_busyRounds (n : Nat) : millisOf (busyRounds n) = 10 * n := by
  induction n with
  | zero => rfl
  | succ n ih => rw [busyRounds, millisOf_append, ih, Nat.mul_succ, Nat.add_comm]; rfl

section
variable {k : ErrKind} {n : Nat} {a : BusResponse} {busy more : List BusResponse}

/-- Not busy ends the loop, whatever the budget. -/
theorem pollLoop_idle (ha : isIdleAnswer a) :
    pollLoop k n (a :: more) = ⟨[reqStatus.event], .done (), more⟩ := by
  rw [pollLoop.eq_def, statusQuery_andThen_of_ok ha.1, ha.2]
  rfl

/-- Busy with no budget left fails. -/
theorem pollLoop_busy_zero (ha : isBusyAnswer a) :
    pollLoop k 0 (a :: more) = ⟨[reqStatus.event], .failed k, more⟩ := by
  rw [pollLoop.eq_def, statusQuery_andThen_of_ok ha.1, ha.2]
  rfl

/-- Busy with a budget left is one round, then the loop with one less. -/
theorem pollLoop_busy_succ (ha : isBusyAnswer a) :
    pollLoop k (n + 1) (a :: more) = (pollLoop k n more).prepend [reqStatus.event, .sleep pollDelayMs] := by
  rw [pollLoop.eq_def, statusQuery_andThen_of_ok ha.1, ha.2]
  rfl

/-- A device that stops being busy within the budget leaves the loop. -/
theorem pollLoop_of_idle {i : BusResponse} (hb : ∀ a ∈ busy, isBusyAnswer a) (hn : busy.length ≤ n)
    (hi : isIdleAnswer i) : pollLoop k n (busy ++ i :: more) =
      ⟨busyRounds busy.length ++ [reqStatus.event], .done (), more⟩ := by
  induction busy generalizing n with
  | nil => exact pollLoop_idle hi
  | cons a busy ih =>
    obtain ⟨ha, hb⟩ := List.forall_mem_cons.mp hb
    cases n with
    | zero => simp at hn
    | succ n => rw [List.cons_append, pollLoop_busy_succ ha, ih hb (Nat.le_of_succ_le_succ hn)]; rfl

/-- A device still busy at the last permitted query makes the loop fail. -/
theorem pollLoop_of_busy (hb : ∀ a ∈ busy, isBusyAnswer a) (hn : busy.length = n + 1) :
    pollLoop k n (busy ++ more) = ⟨busyRounds n ++ [reqStatus.event], .failed k, more⟩ := by
  induction n generalizing busy with
  | zero =>
    obtain ⟨a, rfl⟩ := List.length_eq_one_iff.mp hn
    exact pollLoop_busy_zero (hb a (by simp))
  | succ n ih =>
    obtain ⟨a, busy, rfl⟩ := List.exists_cons_of_length_eq_add_one hn
    obtain ⟨ha, hb⟩ := List.forall_mem_cons.mp hb
    rw [List.cons_append, pollLoop_busy_succ ha, ih hb (Nat.succ.inj hn)]
    rfl

end

/-! ## The event budget of CALIBRATE (R99, R191) -/

/-- The events of a CALIBRATE with `n` queries answered busy before a sleep, and `m` more queries. -/
def calibrateEvents (p : Parameters) (n m : Nat) : List Event :=
  [(reqCalibrate p).event] ++ busyRounds n ++ List.replicate m reqStatus.event

section
variable (p : Parameters) (n m : Nat)

theorem length_calibrateEvents : (calibrateEvents p n m).length = 2 * n + 1 + m := by
  simp [calibrateEvents]
  omega

theorem sleepCount_calibrateEvents : sleepCount (calibrateEvents p n m) = n := by
  have hwrite : sleepCount [(reqCalibrate p).event] = 0 := rfl
  have hqueries : sleepCount (List.replicate m reqStatus.event) = 0 := List.countP_replicate
  rw [calibrateEvents, sleepCount_append, sleepCount_append, hwrite, hqueries, sleepCount_busyRounds, Nat.zero_add,
    Nat.add_zero]

theorem millisOf_calibrateEvents : millisOf (calibrateEvents p n m) = 10 * n := by
  have hwrite : millisOf [(reqCalibrate p).event] = 0 := rfl
  have hqueries : millisOf (List.replicate m reqStatus.event) = 0 := by
    rw [millisOf, List.map_replicate, List.sum_replicate]
    exact Nat.mul_zero m
  rw [calibrateEvents, millisOf_append, millisOf_append, hwrite, hqueries, millisOf_busyRounds, Nat.zero_add,
    Nat.add_zero]

end

section
variable {p : Parameters} {w : BusResponse} {busy more : List BusResponse}

/-- CALIBRATE on a device that stops being busy within the budget ends as its check says (R97, R99). -/
theorem calibratePart_of_idle {i c : BusResponse} (hw : w.ok = true) (hb : ∀ a ∈ busy, isBusyAnswer a)
    (hn : busy.length ≤ 10) (hi : isIdleAnswer i) (hc : c.ok = true) :
    calibratePart p (w :: busy ++ i :: c :: more) = ⟨calibrateEvents p busy.length 2,
      if (c.byteAt 0).getLsbD 3 then .done () else .failed .uncalibrated, more⟩ := by
  rw [calibratePart, List.cons_append, transaction_andThen_of_ok hw, pollLoop_of_idle hb hn hi,
    Part.andThen_of_done rfl, statusQuery_andThen_of_ok hc]
  cases (c.byteAt 0).getLsbD 3 <;> simp [Part.prepend, calibrateEvents, done, failed]

/-- CALIBRATE on a device busy for eleven queries fails without a check (R97, R99). -/
theorem calibratePart_of_busy (hw : w.ok = true) (hb : ∀ a ∈ busy, isBusyAnswer a) (hn : busy.length = 11) :
    calibratePart p (w :: busy ++ more) = ⟨calibrateEvents p 10 1, .failed .uncalibrated, more⟩ := by
  rw [calibratePart, List.cons_append, transaction_andThen_of_ok hw, pollLoop_of_busy hb hn,
    Part.andThen_of_failed rfl]
  rfl

end

/-- The run of a CALIBRATE whose events and ending on its script are known (R95). -/
theorem calibrate_reaches {s : State} {rest : List CmdWord} {n m : Nat} {e : Ending Unit} {more : List BusResponse}
    {result : Result} (hq : s.seq = .idle) (ho : s.outstanding = none) (hh : s.handle = true)
    (hc : s.env.cmds = 3 :: rest) (hz : n ≤ s.env.sleeps) (hk : 1 ≤ s.env.takes)
    (hp : calibratePart s.cfg s.env.bus = ⟨calibrateEvents s.cfg n m, e, more⟩)
    (hr : resultOf (fun _ => .ok) e = some result) :
    ∃ (t : State) (es : List Event), Reaches s t ∧ t.seq = .idle ∧ es.length = 2 * n + 1 + m ∧
      millisOf es = 10 * n ∧ t.env.bus = more ∧
      t.trace = s.trace ++ es ++ [.respond (Response.ofResult result)] := by
  have hsleeps : sleepCount (calibratePart s.cfg s.env.bus).events ≤ s.env.sleeps := by
    rwa [hp, sleepCount_calibrateEvents]
  obtain ⟨t, hreach, hseq, -, -, -, htrace, henv⟩ :=
    calibrateCarriedOut s rest result hq ho hh hc (by rwa [hp]) hsleeps hk
  rw [hp] at htrace henv
  exact ⟨t, _, hreach, hseq, length_calibrateEvents .., millisOf_calibrateEvents .., by rw [henv], htrace⟩

/-- Settles O59: the part on each of the two scripts, carried out by the block. -/
theorem calibrateEventBudget : Obligations.CalibrateEventBudget := by
  intro s rest w busy more hq ho hh hc hz hk hw hb
  refine ⟨fun i c hn hi hok hbus => ?_, fun hn hbus => ?_⟩
  · have hpart := calibratePart_of_idle (p := s.cfg) (more := more) hw hb hn hi hok
    rw [← hbus] at hpart
    refine calibrate_reaches hq ho hh hc (by omega) hk hpart ?_
    cases (c.byteAt 0).getLsbD 3 <;> rfl
  · have hpart := calibratePart_of_busy (p := s.cfg) (more := more) hw hb hn
    rw [← hbus] at hpart
    exact calibrate_reaches hq ho hh hc (by omega) hk hpart rfl

end Sys2Proof.Reference
end

section
/-! # The measurement family: the frames' answers, the loop, the decode stage, READ and its budget (R105 to R112)

READ is its trigger, the poll loop it shares with CALIBRATE, the payload read and the decode stage. The decode stage is
the one part that causes no event; a rule of its own for silent steps follows it. -/

namespace Sys2Proof.Machine

/-! ## The frames' answers (R31, R112) -/

section
variable {b : Bool} {r q : Request} {k : BusResponse → State → Outcome} {s : State} {a : BusResponse}
  {rest : List BusResponse}

/-- A row that is a transaction, in its own state, goes on with an accepted answer (R31). -/
theorem inState_transact_ok (hb : b = true) (ho : s.outstanding = some q) (hbus : s.env.bus = a :: rest)
    (ha : a.ok = true) :
    inState b (transact r fun a => onAnswer a (k a)) s = k a (takeBusAnswer rest s) := by
  rw [inState_here hb, transact_answered ho hbus, onAnswer, if_pos ha]

/-- A row that is a transaction, in its own state, fails with the transport's error (R31, R150). -/
theorem inState_transact_failed (hb : b = true) (ho : s.outstanding = some q) (hbus : s.env.bus = a :: rest)
    (ha : a.ok = false) :
    inState b (transact r fun a => onAnswer a (k a)) s = .next (failWith (.bus a.err) (takeBusAnswer rest s)) := by
  rw [inState_here hb, transact_answered ho hbus, onAnswer, if_neg (ha ▸ Bool.false_ne_true)]

end

/-- Settles O13: each frame's guard holds in its state; an accepted answer goes on as the frame says, an error fails. -/
theorem frameAnswered : Obligations.FrameAnswered := by
  intro s r a rest ho hb
  refine ⟨fun ha => ⟨fun hq => ?_, fun hq => ?_, fun hq => ?_, fun hq => ?_⟩, fun ha i hi => ?_⟩
  · exact inState_transact_ok (by simp [hq]) ho hb ha
  · exact inState_transact_ok (by simp [hq]) ho hb ha
  · exact (inState_transact_ok (by simp [hq]) ho hb ha).trans (congrArg _ (enterMeasureLoop_readTries _))
  · exact inState_transact_ok (by simp [hq]) ho hb ha
  · rcases hi with ⟨hq, rfl⟩ | ⟨hq, rfl⟩ | ⟨hq, rfl⟩ | ⟨hq, rfl⟩ <;>
      exact inState_transact_failed (by simp [hq]) ho hb ha

/-! ## The entry of the measurement loop (R107) -/

/-- Settles O16: the test of the budget at the loop's entry, both ways. -/
theorem zeroBudgetFails : Obligations.ZeroBudgetFails := by
  refine fun n s => ⟨fun hn => ?_, fun hn => ?_⟩
  · rw [enterMeasureLoop, if_pos hn, hn]; rfl
  · rw [enterMeasureLoop, if_neg hn]; rfl

/-! ## The sleeps (R90, R95, R105, R162) -/

/-- After the 20 ms INIT goes on with the calibration (R71). -/
theorem resetSlept_of_init {s : State} (hc : s.cmdr = 1) : resetSlept s = .next (goto .cWrite s) := by
  rw [resetSlept, if_pos hc]

/-- After the 20 ms RESET has ended (R90). -/
theorem resetSlept_of_reset {s : State} (hc : s.cmdr = 2) : resetSlept s = .next (finish .ok s) := by
  rw [resetSlept, if_neg (by rw [hc]; decide), if_pos hc]

/-- After a poll's 10 ms a budget above zero is one less and the next query follows (R15, R95, R105). -/
theorem pollSlept_of_ne_zero {q : SeqState} {s : State} (ht : s.tries ≠ 0) :
    pollSlept q s = .next { s with tries := s.tries - 1, seq := q } := by
  rw [pollSlept, countDown, if_neg ht]
  rfl

/-- Settles O35: each sleep asks for its time, and its answer goes on as R_SLEEP or the poll says. -/
theorem sleepSteps : Obligations.SleepSteps := by
  refine fun s => ⟨fun ho => ⟨fun hq => ?_, ?_⟩, fun r n ho hn =>
    ⟨fun hq hc => ?_, fun hq hc => ?_, fun hq ht => ?_, fun hq ht => ?_⟩⟩
  · exact (step_rSleep hq).trans (sleepFor_issues ho)
  · rintro (hq | hq)
    · exact (step_cSleep hq).trans (sleepFor_issues ho)
    · exact (step_mSleep hq).trans (sleepFor_issues ho)
  · rw [step_rSleep hq, sleepFor_answered ho hn, resetSlept_of_reset (by exact hc)]; rfl
  · rw [step_rSleep hq, sleepFor_answered ho hn, resetSlept_of_init (by exact hc)]; rfl
  · rw [step_cSleep hq, sleepFor_answered ho hn, pollSlept_of_ne_zero (by exact ht)]; rfl
  · rw [step_mSleep hq, sleepFor_answered ho hn, pollSlept_of_ne_zero (by exact ht)]; rfl

/-! ## The decode stage (R105, R108, R109) -/

/-- The six units write their own outputs and nothing else; each output is a function of the payload alone. -/
theorem decoded_eq (s : State) : decoded s = { s with
    dp := ⟨crc8 s.pay.covered, decodeStatus s.pay.b0, unpackHum s.pay, unpackTemp s.pay, convertRh (unpackHum s.pay),
      convertTemp (unpackTemp s.pay)⟩ } := by
  simp only [decoded, runConvT, runConvRh, runUnpackT, runUnpackH, runStatusDecode, runCrc8, StatusSource.read]

section
variable {s : State}

/-- A wrong checksum ends the decode stage, whatever the flag (R108, R110). -/
theorem step_checksumWrong (hq : s.seq = .mDecode) (hc : crc8 s.pay.covered ≠ s.pay.b6) :
    step s = .next (failWith .checksum (runCrc8 s)) := by
  rw [step_mDecode hq, decodeStage_eq, if_pos hc]

/-- A right checksum with `PAY[0][3]` clear fails Uncalibrated (R109, R110). -/
theorem step_flagClear (hq : s.seq = .mDecode) (hc : crc8 s.pay.covered = s.pay.b6)
    (h3 : s.pay.b0.getLsbD 3 = false) :
    step s = .next (failWith .uncalibrated (runStatusDecode .pay0 (runCrc8 s))) := by
  rw [step_mDecode hq, decodeStage_eq, if_neg (not_not.mpr hc), if_neg (h3 ▸ Bool.false_ne_true)]

/-- An accepted payload gives the reading (R105). -/
theorem step_readingDone (hq : s.seq = .mDecode) (hc : crc8 s.pay.covered = s.pay.b6)
    (h3 : s.pay.b0.getLsbD 3 = true) :
    step s = .next (finish (.okReading (decoded s).dp.reading) (decoded s)) := by
  rw [step_mDecode hq, decodeStage_eq, if_neg (not_not.mpr hc), if_pos h3]

end

/-- Settles O36: the three ends of the decode stage, in their priority. -/
theorem decodeStagePriority : Obligations.DecodeStagePriority := by
  refine fun s hq => ⟨step_checksumWrong hq, step_flagClear hq, fun hc h3 => ?_⟩
  rw [step_readingDone hq hc h3, decoded_eq]
  rfl

/-- Settles O37: each unit's row is its own write, and `decoded` is the six writes in the source's order. -/
theorem decodeStageRunsUnits : Obligations.DecodeStageRunsUnits :=
  fun _ hq hc h3 => ⟨_, _, _, _, _, _, rfl, rfl, rfl, rfl, rfl, rfl, hc, h3, step_readingDone hq hc h3⟩

/-! ## The response (R158, R184) -/

/-- A pending result that the host does not take waits (R184). -/
theorem step_responseWaits {s : State} {r : Result} (hq : s.seq = .respond) (hr : s.res = some r)
    (hn : s.env.takes = 0) : step s = .next s := by
  simp [step_respond hq, respondStep, hr, hn]

/-- Settles O39: the result waits for the host, or is delivered on the return to IDLE. -/
theorem respondReturnsToIdle : Obligations.RespondReturnsToIdle := fun _ _ hq hr =>
  ⟨step_responseWaits hq hr, fun _ hn => ⟨_, step_responded hq hr hn, rfl, rfl, rfl, rfl, rfl, rfl, rfl, rfl⟩⟩

end Sys2Proof.Machine

namespace Sys2Proof.Reference

open Sys2Proof.Machine

/-! ## The measurement loop (R105, R106) -/

theorem measurementLoop : PollLoop .maxTriesExceeded .mPoll .mSleep .mFetch where
  queries := rfl
  test u hq := by simp only [callerTest, hq]; rfl
  sleeps _ := step_mSleep

/-- Settles O20: the three ways of the busy test; a byte that is not busy is tested before TRIES. -/
theorem measurementPoll : Obligations.MeasurementPoll := by
  rintro s r a rest _ hq ho hb ha rfl
  have hbyte : a.byteAt 0 = a.rdata.extractLsb' 0 8 := rfl
  rw [measurementLoop.exec_answered hq ho hb ha, hbyte]
  refine ⟨fun h7 => ?_, fun h7 ht => ?_, fun h7 ht => ?_⟩
  · rw [h7]; rfl
  · rw [h7, if_neg ht]; rfl
  · rw [h7, if_pos ht]; rfl

/-! ## READ carries out its pseudocode (R105 to R110) -/

section
variable {p : Parameters} {w : CmdWord} {h : Bool} {s : State}

/-- A step that causes no event and consumes no input may come before a part. -/
theorem Follows.of_silentStep {α : Type} {part : Part α} {exit : α → State → Prop} {t : State}
    (hst : StepsTo s t) (htr : t.trace = s.trace) (henv : t.env = s.env) (ht : Follows h t part exit) :
    Follows h s part exit := by
  intro hz
  obtain ⟨u, hu, hx⟩ := ht (by rwa [henv])
  exact ⟨u, ⟨.head hst hu.reaches, by rw [hu.trace, htr], by rw [hu.env, henv]⟩, hx⟩

/-- M_DECODE is steps 4 to 7 of READ on the payload register (R105). -/
theorem follows_decodePart (hs : At p w h .mDecode s) :
    Follows h s (decodePart s.pay s.env.bus) fun r => Ended h (.okReading r) := by
  have hcov : [s.pay.b0, s.pay.b1, s.pay.b2, s.pay.b3, s.pay.b4, s.pay.b5] = s.pay.covered := rfl
  rw [decodePart, hcov]
  split_ifs with hc h3
  · have hstep := step_readingDone hs.seq hc h3
    rw [decoded_eq] at hstep
    exact .of_silentStep hstep rfl rfl (follows_done ⟨hs.handle, rfl, hs.outstanding, rfl⟩)
  · exact .of_silentStep (step_flagClear hs.seq hc (Bool.eq_false_iff.mpr h3)) rfl rfl
      (follows_failed ⟨hs.handle, rfl, hs.outstanding, rfl⟩)
  · exact .of_silentStep (step_checksumWrong hs.seq hc) rfl rfl
      (follows_failed ⟨hs.handle, rfl, hs.outstanding, rfl⟩)

/-- The payload read and the decode stage on what it returned (R105 steps 3 to 7). -/
theorem follows_payload (hs : At p w h .mFetch s) :
    Follows h s ((transaction (reqPayload p) s.env.bus).andThen fun a rest => decodePart a.payload rest)
      fun r => Ended h (.okReading r) :=
  follows_transaction (K := fun a u => .next (goto .mDecode (latchPayload a.payload u))) hs rfl
    (fun _ hu hc => hc ▸ step_mFetch hu) fun a u hu _ =>
    ⟨_, rfl, rfl, rfl, follows_decodePart (s := goto .mDecode (latchPayload a.payload u))
      ⟨hu.cfg, hu.cmdr, hu.handle, rfl, hu.outstanding⟩⟩

/-- READ after its gate (R105). -/
theorem follows_readPart (hs : At p w h .mWrite s) :
    Follows h s (readPart p s.env.bus) fun r => Ended h (.okReading r) :=
  follows_transaction (K := fun _ u => .next (enterMeasureLoop readTries u)) hs rfl
    (fun _ hu hc => hc ▸ step_mWrite hu) fun _ u hu _ =>
    ⟨_, congrArg _ (enterMeasureLoop_readTries u), rfl, rfl,
      (follows_pollLoop measurementLoop 5 (s := goto .mPoll (loadTries readTries u))
        ⟨hu.cfg, hu.cmdr, hu.handle, rfl, hu.outstanding⟩ rfl).andThen fun _ _ hx => follows_payload hx⟩

end

/-- Settles O58: READ with a handle is dispatched to M_WRITE, from where the block follows `readPart`; HANDLE is 1
throughout. -/
theorem readCarriedOut : Obligations.ReadCarriedOut := by
  intro s rest result hq ho hh hc hr hz hk
  have hstart := step_gated_open (q := .mWrite) (fun _ => rfl) hq hc hh
  exact carriesOut_of_follows hstart rfl rfl (follows_readPart ⟨rfl, rfl, hh, rfl, ho⟩) hr hz hk
    (fun _ _ => rfl) fun _ _ => rfl

/-! ## The event budget of READ (R111, R191) -/

/-- The events of a READ before its payload read: the trigger, `n` queries answered busy, each with its sleep, and one
more query. -/
def measureEvents (p : Parameters) (n : Nat) : List Event :=
  [(reqTrigger p).event] ++ busyRounds n ++ [reqStatus.event]

section
variable (p : Parameters) (n : Nat)

theorem length_measureEvents : (measureEvents p n).length = 2 * n + 2 := by
  simp [measureEvents]

theorem sleepCount_measureEvents : sleepCount (measureEvents p n) = n := by
  have htrigger : sleepCount [(reqTrigger p).event] = 0 := rfl
  have hquery : sleepCount [reqStatus.event] = 0 := rfl
  rw [measureEvents, sleepCount_append, sleepCount_append, htrigger, hquery, sleepCount_busyRounds, Nat.zero_add,
    Nat.add_zero]

theorem millisOf_measureEvents : millisOf (measureEvents p n) = 10 * n := by
  have htrigger : millisOf [(reqTrigger p).event] = 0 := rfl
  have hquery : millisOf [reqStatus.event] = 0 := rfl
  rw [measureEvents, millisOf_append, millisOf_append, htrigger, hquery, millisOf_busyRounds, Nat.zero_add,
    Nat.add_zero]

end

/-- A round is a query and its sleep. -/
theorem mem_busyRounds {n : Nat} {e : Event} (he : e ∈ busyRounds n) :
    e = reqStatus.event ∨ e = .sleep pollDelayMs := by
  induction n with
  | zero => cases he
  | succ n ih =>
    rw [busyRounds, List.mem_append, List.mem_pair] at he
    exact he.elim id ih

/-- No event before the payload read asks for seven bytes (R32). -/
theorem rlen_ne_seven_of_mem_measureEvents {p : Parameters} {n : Nat} {r : BusRequest}
    (hr : .bus r ∈ measureEvents p n) : r.rlen ≠ 7 := by
  simp only [measureEvents, List.mem_append, List.mem_singleton] at hr
  have hcases : Event.bus r = (reqTrigger p).event ∨ Event.bus r = reqStatus.event := by
    rcases hr with (hr | hr) | hr
    · exact .inl hr
    · rcases mem_busyRounds hr with hr | hr
      · exact .inr hr
      · cases hr
    · exact .inr hr
  rcases hcases with hr | hr <;> cases hr
  · exact (by decide : (0 : BitVec 3) ≠ 7)
  · exact (by decide : (1 : BitVec 3) ≠ 7)

/-- Steps 4 to 7 of READ cause no event, take no answer and end the command (R105, R155). -/
theorem decodePart_ends (pay : Payload) (rest : List BusResponse) : ∃ e result,
    decodePart pay rest = ⟨[], e, rest⟩ ∧ resultOf .okReading e = some result := by
  unfold decodePart
  split_ifs <;> exact ⟨_, _, rfl, rfl⟩

section
variable {p : Parameters} {w : BusResponse} {busy more : List BusResponse}

/-- READ on a device that stops being busy within the budget is decided by its payload (R106, R111). -/
theorem readPart_of_idle {i d : BusResponse} (hw : w.ok = true) (hb : ∀ a ∈ busy, isBusyAnswer a)
    (hn : busy.length ≤ 5) (hi : isIdleAnswer i) (hd : d.ok = true) :
    readPart p (w :: busy ++ i :: d :: more) =
      (decodePart d.payload more).prepend (measureEvents p busy.length ++ [(reqPayload p).event]) := by
  rw [readPart, List.cons_append, transaction_andThen_of_ok hw, pollLoop_of_idle hb hn hi, Part.andThen_of_done rfl,
    transaction_andThen_of_ok hd]
  simp [Part.prepend, measureEvents]

/-- READ on a device busy for six queries fails without a payload read (R106, R111). -/
theorem readPart_of_busy (hw : w.ok = true) (hb : ∀ a ∈ busy, isBusyAnswer a) (hn : busy.length = 6) :
    readPart p (w :: busy ++ more) = ⟨measureEvents p 5, .failed .maxTriesExceeded, more⟩ := by
  rw [readPart, List.cons_append, transaction_andThen_of_ok hw, pollLoop_of_busy hb hn, Part.andThen_of_failed rfl]
  rfl

end

/-- The run of a READ whose events and ending on its script are known (R105). -/
theorem read_reaches {s : State} {rest : List CmdWord} {es : List Event} {e : Ending Reading}
    {more : List BusResponse} {result : Result} (hq : s.seq = .idle) (ho : s.outstanding = none)
    (hh : s.handle = true) (hc : s.env.cmds = 4 :: rest) (hz : sleepCount es ≤ s.env.sleeps) (hk : 1 ≤ s.env.takes)
    (hp : readPart s.cfg s.env.bus = ⟨es, e, more⟩) (hr : resultOf .okReading e = some result) :
    ∃ t : State, Reaches s t ∧ t.seq = .idle ∧ t.env.bus = more ∧
      t.trace = s.trace ++ es ++ [.respond (Response.ofResult result)] := by
  obtain ⟨t, hreach, hseq, -, -, -, htrace, henv⟩ :=
    readCarriedOut s rest result hq ho hh hc (by rwa [hp]) (by rwa [hp]) hk
  rw [hp] at htrace henv
  exact ⟨t, hreach, hseq, by rw [henv], htrace⟩

/-- Settles O60: the part on each of the two scripts, carried out by the block. -/
theorem readEventBudget : Obligations.ReadEventBudget := by
  intro s rest w busy more hq ho hh hc hz hk hw hb
  refine ⟨fun i d hn hi hd hbus => ?_, fun hn hbus => ?_⟩
  · obtain ⟨e, result, hdecode, hr⟩ := decodePart_ends d.payload more
    have hpart := readPart_of_idle (p := s.cfg) (more := more) hw hb hn hi hd
    rw [← hbus, hdecode, Part.prepend, List.append_nil] at hpart
    have hsleeps : sleepCount (measureEvents s.cfg busy.length ++ [(reqPayload s.cfg).event]) = busy.length := by
      rw [sleepCount_append, sleepCount_measureEvents]; rfl
    obtain ⟨t, hreach, hseq, hmore, htrace⟩ := read_reaches hq ho hh hc (by omega) hk hpart hr
    refine ⟨t, measureEvents s.cfg busy.length, .ofResult result, hreach, hseq, ?_, millisOf_measureEvents ..,
      hmore, ?_⟩
    · rw [List.length_append, length_measureEvents]; rfl
    · rw [htrace, ← List.append_assoc]; rfl
  · have hpart := readPart_of_busy (p := s.cfg) (more := more) hw hb hn
    rw [← hbus] at hpart
    have hsleeps := sleepCount_measureEvents s.cfg 5
    obtain ⟨t, hreach, hseq, hmore, htrace⟩ := read_reaches hq ho hh hc (by omega) hk hpart rfl
    refine ⟨t, measureEvents s.cfg 5, hreach, hseq, length_measureEvents .., millisOf_measureEvents .., ?_, hmore,
      htrace⟩
    rintro _ he r rfl
    exact rlen_ne_seven_of_mem_measureEvents he

end Sys2Proof.Reference
end

section
/-! # The CRC family: CRC8 and its laws (R120 to R124)

The byte step is linear in the accumulator and the byte together, and no turn of the shift register loses a bit. The
residue (R122 a), the affine law (R122 b) and the detection of errors (R122 c) follow from these two. -/

namespace Sys2Proof.Machine

/-! ## The shift register loses nothing -/

/-- Only 0 becomes 0: a turn that drops a 1 adds the polynomial, whose bit 0 is set (R120). -/
theorem crcShift_eq_zero_iff {c : Byte} : crcShift c = 0 ↔ c = 0 := by
  refine ⟨fun h => ?_, fun h => h ▸ crcShift_zero⟩
  rw [crcShift] at h
  split_ifs at h with htop
  · have hlow : (c <<< 1 ^^^ crcPoly).getLsbD 0 = true := by simp [crcPoly]
    simp [h] at hlow
  · have hmsb : c.msb = false := by simpa [BitVec.msb_eq_getLsbD_last] using htop
    have hlt := BitVec.msb_eq_false_iff_two_mul_lt.mp hmsb
    change c <<< 1 = 0#8 at h
    change c = 0#8
    bv_omega

theorem crcShifts_eq_zero_iff {n : Nat} {c : Byte} : crcShifts n c = 0 ↔ c = 0 := by
  induction n generalizing c with
  | zero => rfl
  | succ n ih => rw [crcShifts, ih, crcShift_eq_zero_iff]

theorem crcShifts_add (m n : Nat) (c : Byte) : crcShifts (m + n) c = crcShifts m (crcShifts n c) := by
  induction n generalizing c with
  | zero => rfl
  | succ n ih => exact ih (crcShift c)

/-- A byte clears the accumulator only when it is equal to it. -/
theorem crcByte_eq_zero_iff {c b : Byte} : crcByte c b = 0 ↔ c = b := by
  rw [crcByte, crcShifts_eq_zero_iff]
  exact BitVec.xor_eq_zero_iff

/-! ## The algorithm, its table and its residue (R120, R121, R122 a) -/

/-- Settles O23: the operand and the loops are the definitions', one more byte is a byte step. -/
theorem crcExecuted : Obligations.CrcExecuted :=
  ⟨fun _ => rfl, crc8_nil, crc8_append_singleton, fun _ => ⟨rfl, fun _ => rfl⟩, by decide +kernel⟩

/-- Every entry of the table is eight turns on its index (R121). -/
theorem crcTableAt_eq_crcShifts : ∀ x : Byte, crcTableAt x = crcShifts 8 x := by decide +kernel

/-- Settles O25: the two folds have the same step. -/
theorem crcTableAgrees : Obligations.CrcTableAgrees := by
  intro m
  simp only [crc8ByTable, crcTableAt_eq_crcShifts, crc8_eq_foldl]
  rfl

/-- The check of R108 is the residue test. -/
theorem crc8_covered_eq_iff (p : Payload) : crc8 p.covered = p.b6 ↔ crc8 p.bytes = 0 := by
  rw [Payload.bytes, crc8_append_singleton, crcByte_eq_zero_iff]

/-- Settles O26: the last byte step clears the accumulator exactly when the byte is equal to it. -/
theorem crcResidue : Obligations.CrcResidue :=
  ⟨fun m => by rw [crc8_append_singleton, crcByte_self], crc8_covered_eq_iff⟩

/-! ## The message enters linearly (R122 b) -/

theorem crcByte_xor (c d a b : Byte) : crcByte (c ^^^ d) (a ^^^ b) = crcByte c a ^^^ crcByte d b := by
  rw [crcByte, crcByte, crcByte, ← crcShifts_xor]
  congr 1
  ac_rfl

/-- The byte steps on two strings of equal length are the byte steps on their exclusive or. -/
theorem foldl_crcByte_xor (c d : Byte) {a b : List Byte} (h : a.length = b.length) :
    (List.zipWith (· ^^^ ·) a b).foldl crcByte (c ^^^ d) = a.foldl crcByte c ^^^ b.foldl crcByte d := by
  induction a generalizing b c d with
  | nil => cases b with
    | nil => rfl
    | cons => cases h
  | cons x a ih => cases b with
    | nil => cases h
    | cons y b =>
      rw [List.zipWith_cons_cons, List.foldl_cons, crcByte_xor]
      exact ih _ _ (Nat.succ.inj h)

/-- CRC8 of a message with errors: the CRC8 of the message and the errors run from 0, with no initial value. -/
theorem crc8_xor {m e : List Byte} (h : m.length = e.length) :
    crc8 (List.zipWith (· ^^^ ·) m e) = crc8 m ^^^ e.foldl crcByte 0 := by
  have hinit : crcInit = crcInit ^^^ 0 := rfl
  rw [crc8_eq_foldl, crc8_eq_foldl, ← foldl_crcByte_xor _ _ h, ← hinit]

/-- Zero bytes change no byte they are added to. -/
theorem zipWith_xor_replicate_zero (m : List Byte) :
    List.zipWith (· ^^^ ·) m (List.replicate m.length 0) = m := by
  induction m with
  | nil => rfl
  | cons b m ih =>
    rw [List.length_cons, List.replicate_succ, List.zipWith_cons_cons, ih]
    simp

/-- Run from 0, a string gives what it adds to the CRC8 of the zero string: the two initial values cancel. -/
theorem foldl_crcByte_zero (m : List Byte) : m.foldl crcByte 0 = crc8 m ^^^ crc8 (List.replicate m.length 0) := by
  have hinit : (0 : Byte) = crcInit ^^^ crcInit := rfl
  rw [crc8_eq_foldl, crc8_eq_foldl, ← foldl_crcByte_xor _ _ (by simp), ← hinit, zipWith_xor_replicate_zero]

/-- Settles O27: the second string is an error in the first, run from 0. -/
theorem crcAffine : Obligations.CrcAffine := by
  intro a b h
  rw [crc8_xor h, foldl_crcByte_zero, h, BitVec.xor_assoc]

/-! ## Errors in an accepted payload (R122 c) -/

/-- What the error `e` of a payload adds to the residue: its seven bytes run from 0. -/
def syndrome (e : BitVec 56) : Byte := (payloadOfBits e).bytes.foldl crcByte 0

/-- The bytes of an exclusive or. -/
theorem bytes_payloadOfBits_xor (v e : BitVec 56) :
    (payloadOfBits (v ^^^ e)).bytes = List.zipWith (· ^^^ ·) (payloadOfBits v).bytes (payloadOfBits e).bytes := by
  simp [payloadOfBits, Payload.bytes, Payload.covered, BitVec.extractLsb'_xor]

/-- An accepted payload stays accepted exactly under the errors of syndrome 0. -/
theorem accepted_xor_iff {v e : BitVec 56} (h : crc8 (payloadOfBits v).covered = (payloadOfBits v).b6) :
    crc8 (payloadOfBits (v ^^^ e)).covered = (payloadOfBits (v ^^^ e)).b6 ↔ syndrome e = 0 := by
  rw [crc8_covered_eq_iff] at h ⊢
  rw [bytes_payloadOfBits_xor, crc8_xor (by rfl), h, syndrome]
  simp

theorem syndrome_xor (d e : BitVec 56) : syndrome (d ^^^ e) = syndrome d ^^^ syndrome e := by
  rw [syndrome, bytes_payloadOfBits_xor]
  exact foldl_crcByte_xor 0 0 rfl

/-- The bits of a word in the order the CRC consumes them, most significant first (R39). -/
def bitsMsbFirst {w : Nat} (x : BitVec w) : List Bool := (List.range w).map fun k => x.getLsbD (w - 1 - k)

/-- The bits of the seven bytes, byte after byte, are the bits of the 56-bit number (R58). -/
theorem flatMap_bitsMsbFirst_bytes (e : BitVec 56) :
    (payloadOfBits e).bytes.flatMap bitsMsbFirst = bitsMsbFirst e := by
  simp [payloadOfBits, Payload.bytes, Payload.covered, bitsMsbFirst, List.range_succ]

/-- The syndrome is the shift register of R39 fed with the 56 bits of the error. -/
theorem syndrome_eq_foldl_crcFeed (e : BitVec 56) : syndrome e = (bitsMsbFirst e).foldl crcFeed 0 := by
  have hbyte : ∀ c b : Byte, (bitsMsbFirst b).foldl crcFeed c = crcByte c b := foldl_crcFeed_byte
  rw [← flatMap_bitsMsbFirst_bytes, List.foldl_flatMap]
  simp only [hbyte, syndrome]

/-- Zero bits only turn the register. -/
theorem foldl_crcFeed_zeros (n : Nat) (c : Byte) : (List.replicate n false).foldl crcFeed c = crcShifts n c := by
  induction n generalizing c with
  | zero => rfl
  | succ n ih =>
    have hfeed : crcFeed c false = crcShift c := by rw [crcFeed, Bool.xor_false, crcShift]
    rw [List.replicate_succ, List.foldl_cons, hfeed, ih, crcShifts]

/-- An error confined to `w` consecutive bits is those bits between zeros. -/
theorem bitsMsbFirst_setWidth_shiftLeft {w i : Nat} (x : BitVec w) (h : i + w ≤ 56) :
    bitsMsbFirst (x.setWidth 56 <<< i) =
      List.replicate (56 - w - i) false ++ bitsMsbFirst x ++ List.replicate i false := by
  apply List.ext_getElem
  · simp [bitsMsbFirst]
    omega
  · intro k hk _
    have hk : k < 56 := by simpa [bitsMsbFirst] using hk
    simp only [bitsMsbFirst, List.getElem_append, List.getElem_map, List.getElem_range, List.getElem_replicate,
      List.length_append, List.length_map, List.length_range, List.length_replicate, BitVec.getLsbD_shiftLeft,
      BitVec.getLsbD_setWidth]
    split_ifs with hlast hfirst
    · simp [show w ≤ 56 - 1 - k - i by omega]
    · have hindex : 56 - 1 - k - i = w - 1 - (k - (56 - w - i)) := by omega
      have hinside : ¬ 56 - 1 - k < i ∧ 56 - 1 - k < 56 ∧ 56 - 1 - k - i < 56 := by omega
      simp only [← hindex, hinside, decide_true, decide_false, Bool.not_false, Bool.true_and]
    · simp [show 56 - 1 - k < i by omega]

/-- Its syndrome: the zeros before it leave the register at 0, the zeros after it turn the register. -/
theorem syndrome_setWidth_shiftLeft {w i : Nat} (x : BitVec w) (h : i + w ≤ 56) :
    syndrome (x.setWidth 56 <<< i) = crcShifts i ((bitsMsbFirst x).foldl crcFeed 0) := by
  rw [syndrome_eq_foldl_crcFeed, bitsMsbFirst_setWidth_shiftLeft x h, List.foldl_append, List.foldl_append,
    foldl_crcFeed_zeros, foldl_crcFeed_zeros, crcShifts_zero]

theorem syndrome_bit {i : Nat} (h : i < 56) : syndrome (1#56 <<< i) = crcShifts i crcPoly :=
  syndrome_setWidth_shiftLeft 1#1 h

theorem syndrome_burst {i : Nat} (b : Byte) (h : i ≤ 48) :
    syndrome (b.setWidth 56 <<< i) = crcShifts i (crcByte 0 b) :=
  (syndrome_setWidth_shiftLeft b (by omega)).trans (congrArg _ (foldl_crcFeed_byte 0 b))

/-- The register does not come back to the polynomial within the length of a payload. -/
theorem crcPoly_xor_crcShifts_ne_zero : ∀ d < 55, crcPoly ^^^ crcShifts (d + 1) crcPoly ≠ 0 := by decide +kernel

/-- Two bits at distance `d` have the syndrome of the first, turned on, unless the register comes back within `d`. -/
theorem syndrome_two_bits_ne_zero {i j : Nat} (hij : i < j) (hj : j < 56) :
    syndrome (1#56 <<< i ^^^ 1#56 <<< j) ≠ 0 := by
  obtain ⟨d, rfl⟩ := Nat.exists_eq_add_of_lt hij
  rw [syndrome_xor, syndrome_bit (by omega), syndrome_bit hj, Nat.add_assoc, crcShifts_add, ← crcShifts_xor, ne_eq,
    crcShifts_eq_zero_iff]
  exact crcPoly_xor_crcShifts_ne_zero d (by omega)

/-- Settles O28: none of the three forms of error has syndrome 0. -/
theorem crcDetectsErrors : Obligations.CrcDetectsErrors := by
  intro v e hv he
  rw [ne_eq, accepted_xor_iff hv]
  rcases he with ⟨i, hi, rfl⟩ | ⟨i, j, hij, hj, rfl⟩ | ⟨i, b, hi, hb, rfl⟩
  · rw [syndrome_bit hi, crcShifts_eq_zero_iff]
    decide
  · exact syndrome_two_bits_ne_zero hij hj
  · rw [syndrome_burst b hi, crcShifts_eq_zero_iff, crcByte_eq_zero_iff]
    exact hb.symm

end Sys2Proof.Machine
end

section
/-! # The unpacking family: UNPACK_H, UNPACK_T, PACK and the conversions (R130 to R137)

Each sample is a concatenation of three fields. That a concatenation determines its parts gives PACK as the inverse, and
that its parts share no bit gives the sum. The conversions are exact because their values fit the output's width. -/

namespace Sys2Proof.Machine

/-! ## Concatenations -/

/-- A concatenation of three is `z` exactly when each part is the field of `z` at its place. -/
theorem append_append_eq_iff {u v w : Nat} {a : BitVec u} {b : BitVec v} {c : BitVec w} {z : BitVec (u + v + w)} :
    a ++ b ++ c = z ↔ a = z.extractLsb' (w + v) u ∧ b = z.extractLsb' w v ∧ c = z.extractLsb' 0 w := by
  constructor
  · rintro rfl
    refine ⟨?_, ?_, BitVec.extractLsb'_append_eq_right.symm⟩
    · rw [BitVec.extractLsb'_append_eq_of_le (by omega), Nat.add_sub_cancel_left, BitVec.extractLsb'_append_eq_left]
    · rw [BitVec.extractLsb'_append_eq_of_le le_rfl, Nat.sub_self, BitVec.extractLsb'_append_eq_right]
  · rintro ⟨rfl, rfl, rfl⟩
    rw [BitVec.extractLsb'_append_extractLsb'_eq_extractLsb' rfl, BitVec.extractLsb'_append_extractLsb']

/-- A concatenation is a sum: its two terms share no bit (R130). -/
theorem toNat_append_eq_add {v w : Nat} (x : BitVec v) (y : BitVec w) :
    (x ++ y).toNat = x.toNat * 2 ^ w + y.toNat := by
  rw [BitVec.toNat_append, ← Nat.shiftLeft_add_eq_or_of_lt y.isLt, Nat.shiftLeft_eq]

/-! ## The two samples (R130, R131) -/

/-- The shifts of R130 put the three fields side by side. -/
theorem unpackHum_eq_append (p : Payload) : unpackHum p = p.b1 ++ p.b2 ++ p.b3.extractLsb' 4 4 := by
  have hnibble : (p.b3 >>> 4).setWidth 20 = (p.b3.extractLsb' 4 4).setWidth 20 := by grind
  rw [unpackHum, hnibble, ← BitVec.setWidth_eq (p.b1 ++ p.b2 ++ p.b3.extractLsb' 4 4),
    BitVec.setWidth_append_append_eq_shiftLeft_setWidth_or]

/-- The mask and the shifts of R131 put the three fields side by side. -/
theorem unpackTemp_eq_append (p : Payload) : unpackTemp p = p.b3.extractLsb' 0 4 ++ p.b4 ++ p.b5 := by
  have hmask : p.b3 &&& 0x0F = 0#4 ++ p.b3.setWidth 4 := BitVec.and_setWidth_allOnes 4 4 p.b3
  have hnibble : (p.b3 &&& 0x0F).setWidth 20 = (p.b3.extractLsb' 0 4).setWidth 20 := by
    rw [hmask]
    grind
  rw [unpackTemp, hnibble, ← BitVec.setWidth_eq (p.b3.extractLsb' 0 4 ++ p.b4 ++ p.b5),
    BitVec.setWidth_append_append_eq_shiftLeft_setWidth_or]

theorem toNat_unpackHum (p : Payload) :
    (unpackHum p).toNat = p.b1.toNat * 2 ^ 12 + p.b2.toNat * 2 ^ 4 + p.b3.toNat / 2 ^ 4 := by
  have hnibble : (p.b3.extractLsb' 4 4).toNat = p.b3.toNat / 2 ^ 4 := by
    rw [BitVec.extractLsb'_toNat, Nat.shiftRight_eq_div_pow]
    omega
  rw [unpackHum_eq_append, toNat_append_eq_add, toNat_append_eq_add, hnibble]
  omega

theorem toNat_unpackTemp (p : Payload) :
    (unpackTemp p).toNat = p.b3.toNat % 2 ^ 4 * 2 ^ 16 + p.b4.toNat * 2 ^ 8 + p.b5.toNat := by
  rw [unpackTemp_eq_append, toNat_append_eq_add, toNat_append_eq_add, BitVec.extractLsb'_toNat, Nat.shiftRight_zero]
  omega

/-! ## PACK (R132) -/

theorem unpackHum_eq_iff {p : Payload} {h : Raw} : unpackHum p = h ↔
    p.b1 = h.extractLsb' 12 8 ∧ p.b2 = h.extractLsb' 4 8 ∧ p.b3.extractLsb' 4 4 = h.extractLsb' 0 4 := by
  rw [unpackHum_eq_append]
  exact append_append_eq_iff

theorem unpackTemp_eq_iff {p : Payload} {t : Raw} : unpackTemp p = t ↔
    p.b3.extractLsb' 0 4 = t.extractLsb' 16 4 ∧ p.b4 = t.extractLsb' 8 8 ∧ p.b5 = t.extractLsb' 0 8 := by
  rw [unpackTemp_eq_append]
  exact append_append_eq_iff

theorem unpackHum_packPayload (x : Byte) (h t : Raw) (c : Byte) : unpackHum (packPayload x h t c) = h :=
  unpackHum_eq_iff.mpr ⟨rfl, rfl, BitVec.extractLsb'_append_eq_left⟩

theorem unpackTemp_packPayload (x : Byte) (h t : Raw) (c : Byte) : unpackTemp (packPayload x h t c) = t :=
  unpackTemp_eq_iff.mpr ⟨BitVec.extractLsb'_append_eq_right, rfl, rfl⟩

/-- Each byte of the packed payload is the field that the unpacking took from it; the byte both samples share is its two
nibbles. -/
theorem packPayload_unpack (p : Payload) : packPayload p.b0 (unpackHum p) (unpackTemp p) p.b6 = p := by
  obtain ⟨h1, h2, h3⟩ := unpackHum_eq_iff.mp (Eq.refl (unpackHum p))
  obtain ⟨t3, t4, t5⟩ := unpackTemp_eq_iff.mp (Eq.refl (unpackTemp p))
  have hnibbles : p.b3.extractLsb' 4 4 ++ p.b3.extractLsb' 0 4 = p.b3 :=
    BitVec.extractLsb'_append_extractLsb' (w := 4) (len := 4)
  rw [packPayload, ← h1, ← h2, ← h3, ← t3, ← t4, ← t5, hnibbles]

/-- Settles O29: the concatenation, read as a number as well; a packed sample is unpacked to itself. -/
theorem humidityUnpacked : Obligations.HumidityUnpacked :=
  ⟨fun _ => rfl, fun p => ⟨unpackHum_eq_append p, toNat_unpackHum p⟩, fun h => ⟨_, unpackHum_packPayload 0 h 0 0⟩⟩

/-- Settles O30: the concatenation, read as a number as well; a packed sample is unpacked to itself. -/
theorem temperatureUnpacked : Obligations.TemperatureUnpacked :=
  ⟨fun _ => rfl, fun p => ⟨unpackTemp_eq_append p, toNat_unpackTemp p⟩, fun t => ⟨_, unpackTemp_packPayload 0 0 t 0⟩⟩

/-- Settles O31: both directions of the inverse, and the source's example. -/
theorem packUnpackInverse : Obligations.PackUnpackInverse :=
  ⟨fun x h t c => ⟨unpackHum_packPayload x h t c, unpackTemp_packPayload x h t c⟩, packPayload_unpack, by decide⟩

/-! ## The conversions (R134 to R137) -/

/-- Nothing is lost in the narrowing to 27 bits: `100 * h < 2 ^ 27` (R134). -/
theorem toNat_convertRh (h : Raw) : (convertRh h).toNat = 100 * h.toNat := by
  have hfits : 100 * h.toNat < 2 ^ 27 := by omega
  exact (BitVec.toNat_ofNat _ _).trans (Nat.mod_eq_of_lt hfits)

/-- Nothing is lost in the narrowing to 29 signed bits: `-2 ^ 28 ≤ 200 * t - 52428800 < 2 ^ 28` (R135). -/
theorem toInt_convertTemp (t : Raw) : (convertTemp t).toInt = 200 * (t.toNat : Int) - 52428800 := by
  have hexact : ((tScale * t.toNat : Nat) : Int) - (tOffset * 2 ^ fractionBits : Nat) =
      200 * (t.toNat : Int) - 52428800 := by
    rw [tScale, tOffset, fractionBits]
    omega
  rw [convertTemp, hexact]
  exact BitVec.toInt_ofInt_eq_self (by decide) (by omega) (by omega)

/-- Settles O32: all follows from the exact product; the largest sample needs the 27th bit. -/
theorem humidityConverted : Obligations.HumidityConverted := by
  refine ⟨fun _ => rfl, fun h => ⟨toNat_convertRh h, ?_⟩, by decide, by decide, fun h k hlt => ?_⟩
  · rw [BitVec.toNat_ushiftRight, toNat_convertRh, Nat.shiftRight_eq_div_pow]
    omega
  · rw [BitVec.lt_def] at hlt ⊢
    rw [toNat_convertRh, toNat_convertRh]
    omega

/-- Settles O33: all follows from the exact value; the arithmetic shift is the division that rounds down. -/
theorem temperatureConverted : Obligations.TemperatureConverted := by
  refine ⟨fun _ => rfl, fun t => ⟨toInt_convertTemp t, ?_⟩, by decide, by decide, by decide, fun t u hlt => ?_⟩
  · rw [BitVec.toInt_sshiftRight, Int.shiftRight_eq_div_pow]
    rfl
  · rw [BitVec.lt_def] at hlt
    rw [toInt_convertTemp, toInt_convertTemp]
    omega

/-- A raw sample is a fraction of `2 ^ 20` (R19). -/
theorem raw_toNat_lt (r : Raw) : (r.toNat : ℚ) < 2 ^ 20 := by exact_mod_cast r.isLt

/-- Settles O34: the exact values, divided by `2 ^ 20`, for a sample between 0 and `2 ^ 20`. -/
theorem conversionsExact : Obligations.ConversionsExact := by
  constructor
  · intro h
    have hlt := raw_toNat_lt h
    rw [toNat_convertRh, Nat.cast_mul, Nat.cast_ofNat]
    exact ⟨rfl, by linarith⟩
  · intro t
    have hlt := raw_toNat_lt t
    have hnonneg : (0 : ℚ) ≤ t.toNat := Nat.cast_nonneg _
    have hformula : ((convertTemp t).toInt : ℚ) / 2 ^ 20 = 200 * (t.toNat : ℚ) / 2 ^ 20 - 50 := by
      rw [toInt_convertTemp]
      push_cast
      ring
    rw [hformula]
    exact ⟨rfl, by linarith, by linarith⟩

end Sys2Proof.Machine
end

section
/-! # The exceptions family: the refusal without a handle and the abort `fail K` (R153, R156)

A row that writes an error into the pending result writes no event and leaves HANDLE; what the abort owes HANDLE and the
request in flight is then the invariant's. -/

namespace Sys2Proof.Machine

/-! ## The refusal without a handle (R153) -/

/-- The dispatch of a command behind the gate to a block without a handle (R77, R153). -/
theorem dispatched_refused {w : CmdWord} {s : State} (hw : w = 2 ∨ w = 3 ∨ w = 4) (hh : s.handle = false) :
    dispatched w s = failWith .noHandle (latchCommand w s) := by
  rcases hw with rfl | rfl | rfl <;> exact gate_closed hh

/-- Settles O10: the word is dispatched to the abort by the closed gate, and the pending result is delivered. -/
theorem noHandleRefused : Obligations.NoHandleRefused := by
  intro s w rest n hw hq hh hc hn
  have h1 := step_taken hq hc
  rw [dispatched_refused hw (by exact hh)] at h1
  exact ⟨_, _, h1, step_responded rfl rfl hn, rfl, rfl, hh, rfl, rfl, hh, rfl, rfl⟩

/-! ## The abort (R156) -/

/-- An acceptance that fails is not INIT's, and leaves HANDLE: INIT goes on to its write and DROP ends Ok (R77). -/
theorem dispatched_failed {w : CmdWord} {u : State} {k : ErrKind} (hu : u.res = none)
    (hr : (dispatched w u).res = some (.err k)) : w ≠ 1 ∧ (dispatched w u).handle = u.handle := by
  have h1 : w ≠ 1 := by
    rintro rfl
    cases hu.symm.trans hr
  have h5 : w ≠ 5 := by
    rintro rfl
    cases hr
  exact ⟨h1, by rw [dispatched_handle, if_neg (not_or.mpr ⟨h1, h5⟩)]⟩

/-- A row that fails causes no event and leaves HANDLE. In IDLE it is the acceptance of another command than INIT; in
any other state it leaves CMDR. -/
theorem failure_of_row {s t : State} {k : ErrKind} (h : StepRow s t) (hs : s.res = none)
    (hr : t.res = some (.err k)) :
    t.trace = s.trace ∧ t.handle = s.handle ∧ (s.seq = .idle ∧ t.cmdr ≠ 1 ∨ s.seq ≠ .idle ∧ t.cmdr = s.cmdr) := by
  cases h with
  | taken w rest hq =>
    obtain ⟨h1, hh⟩ := dispatched_failed (by exact hs) hr
    exact ⟨dispatched_trace w _, hh, .inl ⟨hq, by rwa [dispatched_cmdr]⟩⟩
  | busFailed a rest r hreq =>
    have h0 : s.seq ≠ .idle := by
      intro hq
      simp [hq, SeqState.request] at hreq
    exact ⟨rfl, rfl, .inr ⟨h0, rfl⟩⟩
  | calPollGivenUp _ _ hq | measPollGivenUp _ _ hq | checkFailed _ _ hq | checksumWrong hq | flagClear hq =>
    exact ⟨rfl, rfl, .inr ⟨by simp [hq], rfl⟩⟩
  | initChecked | calibrateChecked | resetSlept | readingDone | responded => cases hr
  | idleWaits | issued | busWaits | sleepWaits | resetWritten | calibrateWritten | triggerWritten | payloadFetched
  | calPollIdle | calPollBusy | measPollIdle | measPollBusy | initSlept | calSlept | measSlept | responseWaits =>
    cases hs.symm.trans hr

/-- A state with a pending result is in RESPOND with nothing in flight (R18, R156). -/
theorem ControlInv.of_pending {t : State} {r : Result} (hi : ControlInv t) (hr : t.res = some r) :
    t.seq = .respond ∧ t.outstanding = none := by
  have hq : t.seq = .respond := hi.pending.mp (by simp [hr])
  exact ⟨hq, (hi.settled_of_no_request (by simp [hq, SeqState.request])).1⟩

/-- HANDLE when a command fails: 0 for INIT, as it was for any other (R156). -/
theorem ControlInv.handle_of_failure {s t : State} {k : ErrKind} (hi : ControlInv s) (hq : s.seq ≠ .respond)
    (h : StepRow s t) (hr : t.res = some (.err k)) :
    (t.cmdr = 1 → t.handle = false) ∧ (t.cmdr ≠ 1 → t.handle = s.handle) := by
  obtain ⟨-, hh, ⟨-, h1⟩ | ⟨h0, hc⟩⟩ := failure_of_row h (hi.res_none hq) hr
  · exact ⟨fun ht => absurd ht h1, fun _ => hh⟩
  · have hfit : s.handle = true ↔ s.cmdr ≠ 1 := hi.handle h0 hq
    exact ⟨fun ht => by simpa [hh, ← hc, ht] using hfit, fun _ => hh⟩

/-- Settles O46: the invariant after the step gives RESPOND and nothing in flight, the failing row gives the events and
HANDLE, and the response is delivered on the return to IDLE. -/
theorem failureAborts : Obligations.FailureAborts := by
  refine ⟨fun _ _ => rfl, fun s t k hi hq h hr => ?_⟩
  have hrow := step_row h
  obtain ⟨ht, ho⟩ := (controlInv_of_row hi hrow).of_pending hr
  obtain ⟨htrace, -⟩ := failure_of_row hrow (hi.res_none hq) hr
  obtain ⟨hinit, hother⟩ := hi.handle_of_failure hq hrow hr
  exact ⟨ht, ho, htrace, hinit, hother, fun n hn => ⟨_, step_responded ht hr hn, rfl, rfl, ho, rfl, rfl⟩⟩

end Sys2Proof.Machine
end

section
/-! # The reset and hazards family: the invariant at reset, the busy hazard, the end of every command (R180 to R189)

The bounds of R189 all follow from one count: the answers the running command can still draw, on the bus and from the
delay source. A row takes an answer and lowers the count, issues a request, or brings the response nearer (`Advance`);
the events left, the steps left and the answers the environment must hold are then read off the count. -/

namespace Sys2Proof.Machine

/-! ## The invariant at reset (R23, R180) -/

theorem controlInv_boot {p : Parameters} {e : Env} (he : ∀ a ∈ e.bus, a.err.fits p.busErrW) :
    ControlInv (State.boot p e) where
  inFlight := by simp [State.boot]
  pending := by simp [State.boot]
  command := mem_usedBy_idle _
  result := by simp [State.boot]
  resultWidth := by simp [State.boot]
  inputWidth := he
  tries := Nat.zero_le 10
  handle := fun h => absurd rfl h
  status := trivial

/-- Settles O49: reset is the boot of a platform whose transport has answered nothing yet. -/
theorem invariantAtReset : Obligations.InvariantAtReset :=
  ⟨controlInv_boot (by simp [Env.silent]), fun _ _ => controlInv_boot⟩

/-! ## The busy hazard (R186) -/

/-- The payload read is the request of M_FETCH and of no other state (R32). -/
theorem seq_eq_mFetch_of_request {p : Parameters} {q : SeqState} {b : BusString}
    (h : q.request p = some (busWriteRead b payloadLen)) : q = .mFetch := by
  cases q <;> simp [SeqState.request, reqReset, reqCalibrate, reqTrigger, reqStatus, busWrite, busWriteRead, payloadLen,
    statusRlen] at h ⊢

/-- M_FETCH is entered from M_POLL only, by an answer with BUSY = 0, and no event is caused on the way (R105, R186). -/
theorem fetch_entry_of_row {s t : State} (h : StepRow s t) (hs : s.seq ≠ .mFetch) (ht : t.seq = .mFetch) :
    s.seq = .mPoll ∧ t.st.getLsbD 7 = false ∧ t.trace = s.trace := by
  cases h with
  | measPollIdle a rest hq _ _ hidle => exact ⟨hq, hidle, rfl⟩
  | idleWaits | issued | busWaits | sleepWaits | responseWaits => exact absurd ht hs
  | taken w rest =>
    have hd := dispatched_seq w { s with env := { s.env with cmds := rest } }
    simp [ht] at hd
  | _ => simp at ht

/-- A poll that a busy answer does not fail goes on to its sleep (R95, R106, R186). -/
theorem busy_poll_of_row {s t : State} (h : StepRow s t) (hs : s.seq = .cPoll ∨ s.seq = .mPoll)
    (hne : t.seq ≠ s.seq) (hr : t.res = none) (hbusy : t.st.getLsbD 7 = true) :
    t.seq = .cSleep ∨ t.seq = .mSleep := by
  cases h with
  | calPollBusy => exact .inl rfl
  | measPollBusy => exact .inr rfl
  | calPollIdle a rest _ _ _ hidle | measPollIdle a rest _ _ _ hidle => cases hbusy.symm.trans hidle
  | issued | busWaits | sleepWaits => exact absurd rfl hne
  | busFailed | calPollGivenUp | measPollGivenUp => cases hr
  | idleWaits hq | taken _ _ hq | resetWritten _ _ hq | calibrateWritten _ _ hq | triggerWritten _ _ hq
  | payloadFetched _ _ hq | initChecked _ _ hq | calibrateChecked _ _ hq | checkFailed _ _ hq | initSlept _ hq
  | resetSlept _ hq | calSlept _ hq | measSlept _ hq | checksumWrong hq | flagClear hq | readingDone hq
  | responseWaits _ hq | responded _ _ hq => simp [hq] at hs

/-- A poll's sleep with nothing in flight asks for its 10 ms (R95, R105). -/
theorem step_pollSleep {t : State} (hq : t.seq = .cSleep ∨ t.seq = .mSleep) (ho : t.outstanding = none) :
    step t = .next (issue (.delay pollDelayMs) t) := by
  rcases hq with hq | hq
  · rw [step_cSleep hq, sleepFor_issues ho]
  · rw [step_mSleep hq, sleepFor_issues ho]

/-- Settles O45: the payload read is M_FETCH's request, where the invariant has BUSY = 0; M_FETCH has one entry, and
issues with its next step; a busy answer leads to the sleep, which issues with its next step. -/
theorem busyHazardKept : Obligations.BusyHazardKept := by
  refine ⟨fun s t hi h htrace => ?_, fun s t h => ⟨fetch_entry_of_row (step_row h), fun hq ho => ?_,
    fun hs hne hr hbusy => ?_⟩⟩
  · rcases trace_of_row (step_row h) with ht | ⟨r, -, hreq, rfl⟩ | ⟨r, -, ht⟩
    · simp [ht] at htrace
    · have hr : r.event = .bus ⟨.writeRead, 0x38, s.cfg.payloadWprefix, 7⟩ := by simpa using htrace
      rw [Request.event_eq_bus hr] at hreq
      have hq : s.seq = .mFetch := seq_eq_mFetch_of_request hreq
      simpa [statusFitsState, hq] using hi.status
    · simp [ht] at htrace
  · rw [step_mFetch hq, transact_issues ho] at h
    cases h
    exact ⟨hq, rfl, rfl⟩
  · have hq := busy_poll_of_row (step_row h) hs hne hr hbusy
    refine ⟨hq, fun u ho hu => ?_⟩
    rw [step_pollSleep hq ho] at hu
    cases hu
    exact ⟨rfl, rfl⟩

/-! ## What the running command can still draw (R189) -/

/-- The bus answers the running command can still take. -/
def busLeft (s : State) : Nat :=
  match s.seq with
  | .idle | .mDecode | .respond => 0
  | .rWrite => 1 + if s.cmdr = 1 then 13 else 0
  | .rSleep => if s.cmdr = 1 then 13 else 0
  | .cWrite => 13
  | .cPoll | .mPoll => s.tries.toNat + 2
  | .cSleep | .mSleep => s.tries.toNat - 1 + 2
  | .cCheck | .mFetch => 1
  | .mWrite => 8

/-- The delay answers the running command can still take. -/
def sleepsLeft (s : State) : Nat :=
  match s.seq with
  | .idle | .cCheck | .mFetch | .mDecode | .respond => 0
  | .rWrite | .rSleep => 1 + if s.cmdr = 1 then 10 else 0
  | .cWrite => 10
  | .cPoll | .mPoll => s.tries.toNat
  | .cSleep | .mSleep => s.tries.toNat - 1 + 1
  | .mWrite => 5

/-- The answers the running command can still take. -/
def answersLeft (s : State) : Nat := busLeft s + sleepsLeft s

/-- The steps that take no answer: the decode stage of READ, and the response. -/
def stepsAfterAnswers (s : State) : Nat :=
  match s.seq with
  | .idle => 0
  | .rWrite | .rSleep | .cWrite | .cPoll | .cSleep | .cCheck | .respond => 1
  | .mWrite | .mPoll | .mSleep | .mFetch | .mDecode => 2

/-- The number of requests in flight, 0 or 1 (R18): such a request's event has been caused, its answer not yet taken. -/
def requestsInFlight (s : State) : Nat := if s.outstanding.isSome then 1 else 0

theorem requestsInFlight_of_none {s : State} (h : s.outstanding = none) : requestsInFlight s = 0 := by
  simp [requestsInFlight, h]

theorem requestsInFlight_of_isSome {s : State} (h : s.outstanding.isSome = true) : requestsInFlight s = 1 := by
  simp [requestsInFlight, h]

/-- Each answer belongs to one event. -/
theorem eventsLeft_eq (s : State) : eventsLeft s = answersLeft s - requestsInFlight s := by
  unfold eventsLeft answersLeft busLeft sleepsLeft requestsInFlight
  cases s.seq <;> grind

/-- Each answer belongs to two steps, the issue of its request and its taking. -/
theorem workLeft_eq (s : State) : workLeft s = 2 * answersLeft s - requestsInFlight s + stepsAfterAnswers s := by
  unfold workLeft answersLeft busLeft sleepsLeft requestsInFlight stepsAfterAnswers
  cases s.seq <;> grind

/-- A state with a request to send has an answer to take, on the channel of its request. -/
theorem one_le_busLeft {s : State} {b : BusRequest} (h : s.seq.request s.cfg = some (.bus b)) : 1 ≤ busLeft s := by
  unfold busLeft
  cases hq : s.seq with
  | rWrite | cWrite | cPoll | cCheck | mWrite | mPoll | mFetch => simp
  | idle | rSleep | cSleep | mSleep | mDecode | respond => simp [hq, SeqState.request] at h

theorem one_le_answersLeft {s : State} {r : Request} (h : s.seq.request s.cfg = some r) : 1 ≤ answersLeft s := by
  unfold answersLeft busLeft sleepsLeft
  cases hq : s.seq with
  | idle | mDecode | respond => simp [hq, SeqState.request] at h
  | _ => simp only; omega

/-- A running command still has its response to make. -/
theorem one_le_stepsAfterAnswers {s : State} (h0 : s.seq ≠ .idle) : 1 ≤ stepsAfterAnswers s := by
  unfold stepsAfterAnswers
  cases hq : s.seq with
  | idle => exact absurd hq h0
  | _ => simp

/-! ## What a row does to the count -/

/-- What `answered` asks for in a state that waits for the bus. -/
theorem answered_iff_of_bus {s : State} {b : BusRequest} (h : s.seq.request s.cfg = some (.bus b)) :
    answered s ↔ (s.outstanding.isSome = true → s.env.bus ≠ []) := by
  unfold answered
  cases hq : s.seq with
  | rWrite | cWrite | cPoll | cCheck | mWrite | mPoll | mFetch => rfl
  | idle | rSleep | cSleep | mSleep | mDecode | respond => simp [hq, SeqState.request] at h

/-- What `answered` asks for in a state that waits for the delay source. -/
theorem answered_iff_of_delay {s : State} {ms : Millis} (h : s.seq.request s.cfg = some (.delay ms)) :
    answered s ↔ (s.outstanding.isSome = true → 0 < s.env.sleeps) := by
  unfold answered
  cases hq : s.seq with
  | rSleep | cSleep | mSleep => rfl
  | idle | rWrite | cWrite | cPoll | cCheck | mWrite | mPoll | mFetch | mDecode | respond =>
    simp [hq, SeqState.request, reqReset, reqCalibrate, reqTrigger, reqStatus, reqPayload, busWrite, busWriteRead] at h

/-- The ways a step of a running command moves it on. An answer taken lowers the count of its channel, and no other
number goes up; a step with no answer to take is the decode stage or the response. -/
inductive Advance (s t : State) : Prop where
  | waits : ¬ answered s → t = s → Advance s t
  | issues (r : Request) : s.outstanding = none → s.seq.request s.cfg = some r → t = issue r s → Advance s t
  | takesBus : s.outstanding.isSome = true → t.outstanding = none → t.trace = s.trace →
      (∃ a rest, s.env.bus = a :: rest ∧ t.env = { s.env with bus := rest }) → busLeft t + 1 ≤ busLeft s →
      sleepsLeft t ≤ sleepsLeft s → stepsAfterAnswers t ≤ stepsAfterAnswers s → Advance s t
  | takesSleep : s.outstanding.isSome = true → t.outstanding = none → t.trace = s.trace →
      (∃ n, s.env.sleeps = n + 1 ∧ t.env = { s.env with sleeps := n }) → busLeft t ≤ busLeft s →
      sleepsLeft t + 1 ≤ sleepsLeft s → stepsAfterAnswers t ≤ stepsAfterAnswers s → Advance s t
  | ends : t.eventCount = s.eventCount → (s.seq ≠ .respond → t.env = s.env) → answersLeft t = 0 →
      stepsAfterAnswers t + 1 ≤ stepsAfterAnswers s → Advance s t

theorem toNat_countDown_tries (s : State) : (countDown s).tries.toNat = s.tries.toNat - 1 := by
  by_cases h : s.tries = 0
  · simp [h]
  · have := countDown_tries_toNat (toNat_pos h); omega

/-- Every row of a running command moves it on. -/
theorem advance_of_row {s t : State} (h : StepRow s t) (h0 : s.seq ≠ .idle) : Advance s t := by
  cases h with
  | idleWaits hq | taken _ _ hq => exact absurd hq h0
  | issued r ho hr => exact .issues r ho hr rfl
  | busWaits r ho hr hb => exact .waits (by simp [answered_iff_of_bus hr, ho, hb]) rfl
  | sleepWaits ms ho hr hz => exact .waits (by simp [answered_iff_of_delay hr, ho, hz]) rfl
  | responseWaits r hq _ hn => exact .waits (by simp [answered, hq, hn]) rfl
  | busFailed a rest r hr hb =>
    exact .takesBus hb.1 rfl rfl ⟨a, rest, hb.2, rfl⟩ (one_le_busLeft hr) (Nat.zero_le _)
      (one_le_stepsAfterAnswers h0)
  | resetWritten a rest hq hb =>
    exact .takesBus hb.1 rfl rfl ⟨a, rest, hb.2, rfl⟩ (by simp only [busLeft, hq]; exact (Nat.add_comm ..).le)
      (by simp only [sleepsLeft, hq]; exact Nat.le_refl _) (by simp [stepsAfterAnswers, hq])
  | calibrateWritten a rest hq hb | triggerWritten a rest hq hb | payloadFetched a rest hq hb
  | calPollGivenUp a rest hq hb | measPollGivenUp a rest hq hb | initChecked a rest hq hb
  | calibrateChecked a rest hq hb | checkFailed a rest hq hb | calPollIdle a rest hq hb | measPollIdle a rest hq hb =>
    exact .takesBus hb.1 rfl rfl ⟨a, rest, hb.2, rfl⟩ (by simp [busLeft, hq, calTries, readTries])
      (by simp [sleepsLeft, hq, calTries, readTries]) (by simp [stepsAfterAnswers, hq])
  | calPollBusy a rest hq hb _ _ ht | measPollBusy a rest hq hb _ _ ht =>
    have hpos := toNat_pos ht
    exact .takesBus hb.1 rfl rfl ⟨a, rest, hb.2, rfl⟩ (by simp [busLeft, hq, afterQuery]; omega)
      (by simp [sleepsLeft, hq, afterQuery]; omega) (by simp [stepsAfterAnswers, hq])
  | initSlept n hq hz hc | resetSlept n hq hz hc =>
    exact .takesSleep hz.1 rfl rfl ⟨n, hz.2, rfl⟩ (by simp [busLeft, hq, hc]) (by simp [sleepsLeft, hq, hc])
      (by simp [stepsAfterAnswers, hq])
  | calSlept n hq hz | measSlept n hq hz =>
    have ht : (countDown (takeSleepAnswer n s)).tries.toNat = s.tries.toNat - 1 := toNat_countDown_tries _
    exact .takesSleep hz.1 rfl rfl ⟨n, hz.2, rfl⟩ (by simp [busLeft, hq, ht, -countDown_tries])
      (by simp [sleepsLeft, hq, ht, -countDown_tries]) (by simp [stepsAfterAnswers, hq])
  | checksumWrong hq | flagClear hq | readingDone hq =>
    exact .ends (by simp [State.eventCount, decoded]) (by simp [decoded])
      (by simp [answersLeft, busLeft, sleepsLeft]) (by simp [stepsAfterAnswers, hq])
  | responded r n hq =>
    exact .ends (by simp [State.eventCount, Event.counts]) (absurd hq) (by simp [answersLeft, busLeft, sleepsLeft])
      (by simp [stepsAfterAnswers, hq])

section issue
variable (r : Request) (s : State)

@[simp] theorem issue_answersLeft : answersLeft (issue r s) = answersLeft s := rfl
@[simp] theorem issue_stepsAfterAnswers : stepsAfterAnswers (issue r s) = stepsAfterAnswers s := rfl
@[simp] theorem issue_requestsInFlight : requestsInFlight (issue r s) = 1 := rfl
@[simp] theorem issue_eventCount : (issue r s).eventCount = s.eventCount + 1 := by
  cases r <;> simp [State.eventCount, Request.event, Event.counts]
end issue

/-- The events caused and the events left never grow together: a request moves an event from the one to the other, and
an answer taken only lowers the count. -/
theorem Advance.eventsLeft_le {s t : State} (h : Advance s t) :
    t.eventCount + eventsLeft t ≤ s.eventCount + eventsLeft s := by
  rw [eventsLeft_eq, eventsLeft_eq]
  cases h with
  | waits _ hs => rw [hs]
  | issues r ho hr ht =>
    have hpos := one_le_answersLeft hr
    rw [ht, issue_eventCount, issue_answersLeft, issue_requestsInFlight, requestsInFlight_of_none ho]
    omega
  | takesBus ho ht htrace _ hbus hsleeps | takesSleep ho ht htrace _ hbus hsleeps =>
    rw [State.eventCount, htrace, State.eventCount, answersLeft, answersLeft, requestsInFlight_of_none ht,
      requestsInFlight_of_isSome ho]
    omega
  | ends hcount _ h0 => omega

/-- Where the block is answered it does not wait, and the steps left get fewer (D24). -/
theorem Advance.workLeft_lt {s t : State} (h : Advance s t) (ha : answered s) : workLeft t < workLeft s := by
  rw [workLeft_eq, workLeft_eq]
  cases h with
  | waits hw => exact absurd ha hw
  | issues r ho hr ht =>
    have hpos := one_le_answersLeft hr
    rw [ht, issue_answersLeft, issue_stepsAfterAnswers, issue_requestsInFlight, requestsInFlight_of_none ho]
    omega
  | takesBus ho ht _ _ hbus hsleeps hsteps | takesSleep ho ht _ _ hbus hsleeps hsteps =>
    rw [answersLeft, answersLeft, requestsInFlight_of_none ht, requestsInFlight_of_isSome ho]
    omega
  | ends _ _ h0 hsteps => omega

/-! ## The bounds at acceptance (R72, R91, R99, R111) -/

/-- Where each word is dispatched to (R77). -/
theorem dispatched_seq_of_word (w : CmdWord) (s : State) :
    (dispatched w s).seq = .respond ∨
    w = 1 ∧ (dispatched w s).seq = .rWrite ∨ w = 2 ∧ (dispatched w s).seq = .rWrite ∨
    w = 3 ∧ (dispatched w s).seq = .cWrite ∨ w = 4 ∧ (dispatched w s).seq = .mWrite := by
  unfold dispatched
  cases hh : s.handle <;> split_ifs <;> simp [*]

/-- At acceptance the command has its whole bound before it: 14 bus answers and 11 delay answers are enough for any. -/
theorem dispatched_left (w : CmdWord) (s : State) :
    busLeft (dispatched w s) ≤ 14 ∧ sleepsLeft (dispatched w s) ≤ 11 ∧
    eventsLeft (dispatched w s) ≤ eventBound w ∧ workLeft (dispatched w s) ≤ 51 := by
  have hc := dispatched_cmdr w s
  unfold busLeft sleepsLeft eventsLeft workLeft
  rcases dispatched_seq_of_word w s with hq | ⟨rfl, hq⟩ | ⟨rfl, hq⟩ | ⟨rfl, hq⟩ | ⟨rfl, hq⟩
  · simp [hq]
  all_goals
    simp only [hq, hc]
    cases (dispatched _ s).outstanding.isSome <;> decide

/-- Settles O52: a row of a running command advances it, and the acceptance causes no event. -/
theorem eventBudget : Obligations.EventBudget := by
  refine ⟨fun s t h hq => (advance_of_row (step_row h) hq).eventsLeft_le, fun s t w rest hq _ hc h => ?_⟩
  rw [step_taken hq hc] at h
  cases h
  obtain ⟨-, -, hle, -⟩ := dispatched_left w { s with env := { s.env with cmds := rest } }
  exact ⟨by simp [State.eventCount], hle⟩

/-- Settles O53: a row of a running command that is answered advances it without a wait. -/
theorem answeredStepsMakeProgress : Obligations.AnsweredStepsMakeProgress :=
  fun _ _ hq ha h => (advance_of_row (step_row h) hq).workLeft_lt ha

/-! ## The end of a command (R189) -/

/-- The environment still holds every answer the running command can take, and the host takes a response. -/
def Supplied (s : State) : Prop :=
  busLeft s ≤ s.env.bus.length ∧ sleepsLeft s ≤ s.env.sleeps ∧ 1 ≤ s.env.takes

/-- A supplied block is answered whatever it waits for. -/
theorem Supplied.answered {s : State} (h : Supplied s) (hq : s.seq ≠ .idle) : answered s := by
  obtain ⟨hbus, hsleeps, htakes⟩ := h
  have hne : 1 ≤ busLeft s → s.env.bus ≠ [] := fun h1 => List.length_pos_iff.mp (h1.trans hbus)
  unfold Machine.answered
  cases hs : s.seq with
  | idle => exact absurd hs hq
  | rWrite | cWrite | cPoll | cCheck | mWrite | mPoll | mFetch => exact fun _ => hne (by simp [busLeft, hs])
  | rSleep | cSleep | mSleep => exact fun _ => lt_of_lt_of_le (by simp [sleepsLeft, hs]) hsleeps
  | mDecode => trivial
  | respond => exact htakes

/-- The supply outlasts the command: each answer taken was one of those it can take. -/
theorem Advance.supplied {s t : State} (h : Advance s t) (hq : s.seq ≠ .respond) (hs : Supplied s) : Supplied t := by
  obtain ⟨hbus, hsleeps, htakes⟩ := hs
  cases h with
  | waits _ ht => exact ht ▸ ⟨hbus, hsleeps, htakes⟩
  | issues r _ _ ht => exact ht ▸ ⟨hbus, hsleeps, htakes⟩
  | takesBus _ _ _ henv hbus' hsleeps' =>
    obtain ⟨a, rest, hb, ht⟩ := henv
    rw [hb, List.length_cons] at hbus
    rw [Supplied, ht]
    exact ⟨Nat.le_of_succ_le_succ (hbus'.trans hbus), hsleeps'.trans hsleeps, htakes⟩
  | takesSleep _ _ _ henv hbus' hsleeps' =>
    obtain ⟨n, hn, ht⟩ := henv
    rw [hn] at hsleeps
    rw [Supplied, ht]
    exact ⟨hbus'.trans hbus, Nat.le_of_succ_le_succ (hsleeps'.trans hsleeps), htakes⟩
  | ends _ henv h0 =>
    obtain ⟨hb, hz⟩ := Nat.add_eq_zero_iff.mp h0
    rw [Supplied, henv hq, hb, hz]
    exact ⟨Nat.zero_le _, Nat.zero_le _, htakes⟩

/-- Within `k` steps the block is in IDLE, with `rest` on the port, and has caused at most `b` bus and delay events and
then one response. -/
def EndsWithin (k b : Nat) (rest : List CmdWord) (s : State) : Prop :=
  ∃ n t es rsp, n ≤ k ∧ stepN n s = .next t ∧ t.seq = .idle ∧ t.env.cmds = rest ∧
    t.trace = s.trace ++ es ++ [.respond rsp] ∧ es.countP Event.counts = es.length ∧ es.length ≤ b

/-- One step more, and the events it causes. -/
theorem EndsWithin.of_step {k b k' b' : Nat} {rest : List CmdWord} {s t : State} {es : List Event}
    (ht : EndsWithin k b rest t) (h : step s = .next t) (htrace : t.trace = s.trace ++ es)
    (hes : es.countP Event.counts = es.length) (hk : k + 1 ≤ k') (hb : es.length + b ≤ b') :
    EndsWithin k' b' rest s := by
  obtain ⟨n, u, fs, rsp, hn, hu, hidle, hcmds, htrace', hfs, hlen⟩ := ht
  refine ⟨n + 1, u, es ++ fs, rsp, by omega, by simpa only [stepN, h] using hu, hidle, hcmds,
    by simp [htrace', htrace], by simp [hes, hfs], by rw [List.length_append]; omega⟩

/-- A response that the host takes ends the command with one step. -/
theorem endsWithin_of_respond {s : State} (hi : ControlInv s) (hq : s.seq = .respond) (ht : 1 ≤ s.env.takes) :
    EndsWithin 1 0 s.env.cmds s := by
  obtain ⟨r, hr⟩ := Option.isSome_iff_exists.mp (hi.pending.mpr hq)
  obtain ⟨n, hn⟩ := Nat.exists_eq_add_of_le' ht
  exact ⟨1, returnToIdle (deliver r n s), [], Response.ofResult r, le_rfl,
    by simp only [stepN, step_responded hq hr hn], rfl, rfl, by simp, rfl, le_rfl⟩

/-- Outside RESPOND a running command causes bus and delay events only. -/
theorem counted_events_of_row {s t : State} (h : StepRow s t) (hq : s.seq ≠ .respond) :
    ∃ es, t.trace = s.trace ++ es ∧ es.countP Event.counts = es.length := by
  rcases trace_of_row h with ht | ⟨r, -, -, rfl⟩ | ⟨-, hr, -⟩
  · exact ⟨[], by simp [ht], rfl⟩
  · exact ⟨[r.event], issue_trace r s, by cases r <;> rfl⟩
  · exact absurd hr hq

/-- A running command that is supplied ends, by induction on the steps left (R189, D24). -/
theorem endsWithin_of_supplied (s : State) (hi : ControlInv s) (h0 : s.seq ≠ .idle) (hs : Supplied s) :
    EndsWithin (workLeft s) (eventsLeft s) s.env.cmds s := by
  induction s using (measure workLeft).wf.induction with
  | h s ih =>
    by_cases hq : s.seq = .respond
    · simpa [workLeft, eventsLeft, hq] using endsWithin_of_respond hi hq hs.2.2
    · obtain ⟨t, h⟩ := invariantNeverStops s hi
      have hrow := step_row h
      have hadv := advance_of_row hrow h0
      have hlt : workLeft t < workLeft s := hadv.workLeft_lt (hs.answered h0)
      obtain ⟨hcmds, hidle⟩ := port_of_row hrow h0
      obtain ⟨es, htrace, hes⟩ := counted_events_of_row hrow hq
      have hend := ih t hlt (controlInv_of_row hi hrow) (fun ht => hq (hidle ht)) (hadv.supplied hq hs)
      have hle := hadv.eventsLeft_le
      rw [State.eventCount, htrace, List.countP_append, hes, State.eventCount] at hle
      exact (hcmds ▸ hend).of_step h htrace hes hlt (by omega)

/-- Settles O54: the acceptance is one step, after which the command is supplied and has at most 51 steps left. -/
theorem everyCommandEnds : Obligations.EveryCommandEnds := by
  intro s w rest hi hq hc hbus hsleeps htakes
  obtain ⟨u, h, htrace, henv⟩ : ∃ u, step s = .next (dispatched w u) ∧ u.trace = s.trace ∧
      u.env = { s.env with cmds := rest } := ⟨_, step_taken hq hc, rfl, rfl⟩
  obtain ⟨hb, hz, hevents, hwork⟩ := dispatched_left w u
  have h0 : (dispatched w u).seq ≠ .idle := fun h0 => by simpa [h0] using dispatched_seq w u
  have hs : Supplied (dispatched w u) := by
    rw [Supplied, dispatched_env, henv]
    exact ⟨hb.trans hbus, hz.trans hsleeps, htakes⟩
  have hend := endsWithin_of_supplied _ (invariantKept _ _ hi h) h0 hs
  rw [dispatched_env, henv] at hend
  exact hend.of_step (es := []) h (by simp [htrace]) rfl (by omega) (by simpa using hevents)

end Sys2Proof.Machine
end
